-- ==== Sys2Proof/Word.lean ====
section
/-!
DEFINITION. The plain types the HJ-256 model is written in: bytes, 40-bit byte addresses, the 32-bit tick
count, and the bounded numbers of the blocks (1.4 of 00_scope.md). Counter values, deltas and operands are
unsigned integers (1.6, Counter arithmetic) and are held as `Nat`; the arithmetic that wraps or clamps them
stands in Machine/Flags.lean.
-/

namespace Sys2Proof

/-- One byte of a frame, of a request or of a response. -/
abbrev Byte := BitVec 8

/-- A 40-bit byte address (1.6, Numbers and addresses). -/
abbrev Addr := BitVec 40

/-- The 32-bit tick count, and the stamps dirtySince and lastUse taken from it (R60, R94). -/
abbrev Ticks := BitVec 32

/-- An upstream ID, 0 to 15 (R40). -/
abbrev UpId := Fin 16

/-- The number of a window-table entry, 0 to 15 (R21). -/
abbrev WinNo := Fin 16

/-- The number of an update-table entry, 0 to 255 (R60). -/
abbrev EntryNo := Fin 256

/-- A downstream tag, 0 to 31 (R114). -/
abbrev Tag := Fin 32

/-- A snapshot capture slot: 0 to 15 are the early slots, 16 is the walk slot (R127). -/
abbrev SlotNo := Fin 17

end Sys2Proof
end

