-- ==== Sys2Proof/Syntax.lean ====
section
/-!
DEFINITION. The commands of the block: one constructor of `Instr` per row of spec/opcode_table.json, with the
operands the spec gives the operation or event. The table gives the rows no bits and no fields, so the operands
are those the rules name: an upstream request (R40), the tag, status and data of a downstream response (R113),
the arguments of a management command (10.6).
-/

namespace Sys2Proof

/-- The kind of an upstream or downstream request (R40, R112). -/
inductive ReqKind where
  | read
  | write
  deriving DecidableEq, Repr

/-- The legal upstream request sizes (R40). -/
inductive ReqSize where
  | b4
  | b8
  | b16
  | b32
  | b64
  deriving DecidableEq, Repr

/-- An upstream request (R40). Byte `k` of the data is bits `8k` to `8k+7` of `data`, byte enable `k` is bit `k`
of `enables`; a READ carries neither and holds zero there. -/
structure Request where
  kind : ReqKind
  id : UpId
  addr : Addr
  size : ReqSize
  enables : BitVec 64
  data : BitVec 512
  deriving DecidableEq, Repr

/-- Overflow policy of a window (R9, R10). -/
inductive Policy where
  | wrap
  | saturate
  deriving DecidableEq, Repr

/-- Snapshot mode (R129). -/
inductive SnapMode where
  | copy
  | copyClear
  deriving DecidableEq, Repr

/-- The four parameters of R179. -/
inductive Param where
  | lowMark
  | flushAge
  | prescaler
  | enables
  deriving DecidableEq, Repr

/-- The two forms of ENTRY READ (R181). -/
inductive EntryRef where
  | byNumber (e : BitVec 8)
  | byCounter (w : BitVec 8) (i : BitVec 24)
  deriving DecidableEq, Repr

/-- The arguments of WINDOW LOAD as the frame carries them, but for the policy code, which the management port
has already turned into a policy (R29, R174, 10.6). -/
structure LoadArgs where
  window : BitVec 8
  storage : Addr
  count : BitVec 32
  lanes : BitVec 8
  aliasBase : Addr
  policy : Policy
  exponent : BitVec 8
  deriving DecidableEq, Repr

/-- The arguments of SNAPSHOT START as the frame carries them (R129, 10.6). -/
structure StartArgs where
  window : BitVec 8
  first : BitVec 32
  count : BitVec 32
  dest : Addr
  mode : SnapMode
  deriving DecidableEq, Repr

/-- The commands of the block: every row of spec/opcode_table.json, in the table's order. A management command's
row is the rise of MSEL_N that ends the frame carrying it (R172). -/
inductive Instr where
  /-- HARD_RESET (R185): RST_N is asserted. -/
  | hardReset
  /-- REQUEST_TAKEN (R42): the masters present `r` on the request channel; it is taken when it may be. -/
  | requestTaken (r : Request)
  /-- HOLD_SLOT_RETRY (R47). -/
  | holdSlotRetry
  /-- RESPONSE_DELIVERY (R51): the masters' side accepts the presented response. -/
  | responseDelivery
  /-- DOWNSTREAM_GRANT (R120): the arbiter makes its choice. -/
  | downstreamGrant
  /-- DOWNSTREAM_REQUEST_ACCEPTED (R120). -/
  | downstreamRequestAccepted
  /-- PASS_THROUGH_COMPLETION (R121): a response with this tag, status and data arrives. -/
  | passThroughCompletion (t : Tag) (ok : Bool) (data : BitVec 512)
  /-- WINDOW_BECOMES_ACTIVE (R33). -/
  | windowBecomesActive (w : WinNo)
  /-- FETCH_RETURN (R85): an OK response with data arrives. -/
  | fetchReturn (t : Tag) (data : BitVec 512)
  /-- WRITE_BACK_RETURN (R89): an OK response without data arrives. -/
  | writeBackReturn (t : Tag)
  /-- FETCH_ERROR (R149): an ERROR response arrives. -/
  | fetchError (t : Tag)
  /-- WRITE_BACK_ERROR (R150): an ERROR response arrives. -/
  | writeBackError (t : Tag)
  /-- DESTINATION_WRITE_RETURN (R139): an OK response without data arrives. -/
  | destinationWriteReturn (t : Tag)
  /-- DESTINATION_WRITE_ERROR (R143): an ERROR response arrives. -/
  | destinationWriteError (t : Tag)
  /-- TABLE_RESPONSE_ABSORBED (R90): a response arrives in the soft reset interval. -/
  | tableResponseAbsorbed (t : Tag) (ok : Bool) (data : BitVec 512)
  /-- SNAP_RESPONSE_ABSORBED (R147): a response arrives in the soft reset interval. -/
  | snapResponseAbsorbed (t : Tag) (ok : Bool)
  /-- ORPHAN_RESPONSE (R113): a response arrives whose tag is free. -/
  | orphanResponse (t : Tag) (ok : Bool) (data : BitVec 512)
  /-- TICK_ADVANCE (R94). -/
  | tickAdvance
  /-- FRAME_START (R172): a fall of MSEL_N. -/
  | frameStart
  /-- FRAME_WITHOUT_COMMAND (R172): the frame ends with these fewer than three bytes. -/
  | frameWithoutCommand (bytes : List Byte)
  /-- NOP (R172): the frame ends with command code 0. -/
  | nop
  /-- FRAME_BUSY (R172): a frame begun while the engine was EXECUTING ends with these bytes. -/
  | frameBusy (bytes : List Byte)
  /-- UNASSIGNED_COMMAND (R174): the frame ends with bytes that spell no command of 10.2 to 10.5. -/
  | unassignedCommand (bytes : List Byte)
  /-- WINDOW_LOAD (R29). -/
  | windowLoad (a : LoadArgs)
  /-- WINDOW_ARM (R32). -/
  | windowArm (w : BitVec 8)
  /-- WINDOW_DRAIN (R34). -/
  | windowDrain (w : BitVec 8)
  /-- WINDOW_RELEASE (R31). -/
  | windowRelease (w : BitVec 8)
  /-- WINDOW_STATUS (R39). -/
  | windowStatus (w : BitVec 8)
  /-- WINDOW_QUIESCE (R35). -/
  | windowQuiesce (w : WinNo)
  /-- SNAPSHOT_START (R129). -/
  | snapshotStart (a : StartArgs)
  /-- SNAPSHOT_ABORT (R141). -/
  | snapshotAbort
  /-- SNAPSHOT_STATUS (R145). -/
  | snapshotStatus
  /-- SNAPSHOT_COMPLETE (R140). -/
  | snapshotComplete
  /-- SNAPSHOT_END (R142). -/
  | snapshotEnd
  /-- WALK_RETRY (R133). -/
  | walkRetry
  /-- FAULT_READ (R155). -/
  | faultRead
  /-- RETRY (R156). -/
  | retry (w : BitVec 8)
  /-- DISCARD (R159). -/
  | discard (w : BitVec 8)
  /-- ALERT_POP (R165). -/
  | alertPop
  /-- FLUSH_ALL (R106). -/
  | flushAll
  /-- FLUSH_ALL_COMPLETE (R108). -/
  | flushAllComplete
  /-- PARAM_SET_LOW_MARK (R95). -/
  | paramSetLowMark (v : BitVec 32)
  /-- PARAM_SET_FLUSH_AGE (R98). -/
  | paramSetFlushAge (v : BitVec 32)
  /-- PARAM_SET_PRESCALER (R94). -/
  | paramSetPrescaler (v : BitVec 32)
  /-- PARAM_SET_ENABLES (R166). -/
  | paramSetEnables (v : BitVec 32)
  /-- PARAM_GET (R179). -/
  | paramGet (p : Param)
  /-- MGMT_STATUS (R180). -/
  | mgmtStatus
  /-- ENTRY_READ (R181). -/
  | entryRead (r : EntryRef)
  /-- SOFT_RESET (R182). -/
  | softReset
  /-- SOFT_RESET_CLEARING (R183). -/
  | softResetClearing
  /-- SOFT_RESET_END (R184). -/
  | softResetEnd
  /-- RST_N_RELEASED (R185). -/
  | rstNReleased
  deriving DecidableEq, Repr

end Sys2Proof
end

