-- ==== Sys2Proof/Decode.lean ====
section
/-!
DEFINITION. Bytes and frames: the little-endian byte order of R1 and R171, the reader of a command frame's MDI
bytes (R171, R172, R174 and the argument layouts of 10.6), the writer of the same bytes, and the bit order of the
link (R171). The opcode table gives its rows no bits, so `decodeTableWord` answers none.
-/

namespace Sys2Proof

/-! ### Byte order -/

/-- The `n` low bytes of `v`, the least significant first (R1). -/
def bytesLE : Nat → Nat → List Byte
  | 0, _ => []
  | n + 1, v => BitVec.ofNat 8 v :: bytesLE n (v / 256)

/-- The unsigned integer that bytes form, the least significant first (R1, R7). -/
def natLE : List Byte → Nat
  | [] => 0
  | b :: bs => b.toNat + 256 * natLE bs

/-- The field of `size` bytes at offset `off` of a layout (10.6). -/
def field (bytes : List Byte) (off size : Nat) : Nat :=
  natLE ((bytes.drop off).take size)

/-- Bytes of a request size (R40). -/
def ReqSize.bytes : ReqSize → Nat
  | .b4 => 4
  | .b8 => 8
  | .b16 => 16
  | .b32 => 32
  | .b64 => 64

/-! ### The link's bits -/

/-- A byte from its eight bits, most significant first (R171). -/
def byteOfBits (bits : List Bool) : Byte :=
  BitVec.ofNat 8 (bits.foldl (fun a b => 2 * a + b.toNat) 0)

/-- The bits of a byte, most significant first (R171). -/
def bitsOfByte (b : Byte) : List Bool :=
  [b.getLsbD 7, b.getLsbD 6, b.getLsbD 5, b.getLsbD 4, b.getLsbD 3, b.getLsbD 2, b.getLsbD 1, b.getLsbD 0]

/-- The whole bytes of the bits sampled on MDI; bits after the last whole byte are ignored (R171). -/
def mdiBytes : List Bool → List Byte
  | b7 :: b6 :: b5 :: b4 :: b3 :: b2 :: b1 :: b0 :: rest =>
    byteOfBits [b7, b6, b5, b4, b3, b2, b1, b0] :: mdiBytes rest
  | _ => []

/-! ### Command codes (10.2 to 10.5) -/

def codeNop : Byte := 0x00
def codeMgmtStatus : Byte := 0x01
def codeParamSet : Byte := 0x02
def codeParamGet : Byte := 0x03
def codeSoftReset : Byte := 0x04
def codeWindowLoad : Byte := 0x10
def codeWindowArm : Byte := 0x11
def codeWindowDrain : Byte := 0x12
def codeWindowRelease : Byte := 0x13
def codeWindowStatus : Byte := 0x14
def codeSnapshotStart : Byte := 0x20
def codeSnapshotAbort : Byte := 0x21
def codeSnapshotStatus : Byte := 0x22
def codeAlertPop : Byte := 0x30
def codeFaultRead : Byte := 0x38
def codeRetry : Byte := 0x39
def codeDiscard : Byte := 0x3A
def codeFlushAll : Byte := 0x40
def codeEntryRead : Byte := 0x48

/-- Policy codes of 10.6. -/
def policyOfCode (c : Nat) : Option Policy :=
  if c = 0 then some .wrap else if c = 1 then some .saturate else none

def policyCode : Policy → Nat
  | .wrap => 0
  | .saturate => 1

/-- Mode codes of 10.6. -/
def modeOfCode (c : Nat) : Option SnapMode :=
  if c = 0 then some .copy else if c = 1 then some .copyClear else none

def modeCode : SnapMode → Nat
  | .copy => 0
  | .copyClear => 1

/-- Parameter numbers of R179. -/
def paramOfNumber (c : Nat) : Option Param :=
  if c = 1 then some .lowMark
  else if c = 2 then some .flushAge
  else if c = 3 then some .prescaler
  else if c = 4 then some .enables
  else none

def paramNumber : Param → Nat
  | .lowMark => 1
  | .flushAge => 2
  | .prescaler => 3
  | .enables => 4

/-- The PARAM SET row of each parameter (R179). -/
def paramSet : Param → BitVec 32 → Instr
  | .lowMark, v => .paramSetLowMark v
  | .flushAge, v => .paramSetFlushAge v
  | .prescaler, v => .paramSetPrescaler v
  | .enables, v => .paramSetEnables v

/-! ### The command frame (10.6) -/

/-- The command that a code and its argument bytes spell; none where the code is unassigned, the argument length
is not the command's, or a named value's code is unassigned (R174, cases 1, 2 and 4). -/
def parseArgs (code : Byte) (args : List Byte) : Option Instr :=
  let n := args.length
  let window := BitVec.ofNat 8 (field args 0 1)
  if code = codeMgmtStatus then (if n = 0 then some .mgmtStatus else none)
  else if code = codeParamSet then
    (if n = 5 then (paramOfNumber (field args 0 1)).map (fun p => paramSet p (BitVec.ofNat 32 (field args 1 4))) else none)
  else if code = codeParamGet then
    (if n = 1 then (paramOfNumber (field args 0 1)).map .paramGet else none)
  else if code = codeSoftReset then (if n = 0 then some .softReset else none)
  else if code = codeWindowLoad then
    (if n = 18 then
      (policyOfCode (field args 16 1)).map (fun p => .windowLoad
        { window := window
          storage := BitVec.ofNat 40 (field args 1 5)
          count := BitVec.ofNat 32 (field args 6 4)
          lanes := BitVec.ofNat 8 (field args 10 1)
          aliasBase := BitVec.ofNat 40 (field args 11 5)
          policy := p
          exponent := BitVec.ofNat 8 (field args 17 1) })
    else none)
  else if code = codeWindowArm then (if n = 1 then some (.windowArm window) else none)
  else if code = codeWindowDrain then (if n = 1 then some (.windowDrain window) else none)
  else if code = codeWindowRelease then (if n = 1 then some (.windowRelease window) else none)
  else if code = codeWindowStatus then (if n = 1 then some (.windowStatus window) else none)
  else if code = codeSnapshotStart then
    (if n = 15 then
      (modeOfCode (field args 14 1)).map (fun m => .snapshotStart
        { window := window
          first := BitVec.ofNat 32 (field args 1 4)
          count := BitVec.ofNat 32 (field args 5 4)
          dest := BitVec.ofNat 40 (field args 9 5)
          mode := m })
    else none)
  else if code = codeSnapshotAbort then (if n = 0 then some .snapshotAbort else none)
  else if code = codeSnapshotStatus then (if n = 0 then some .snapshotStatus else none)
  else if code = codeAlertPop then (if n = 0 then some .alertPop else none)
  else if code = codeFaultRead then (if n = 0 then some .faultRead else none)
  else if code = codeRetry then (if n = 1 then some (.retry window) else none)
  else if code = codeDiscard then (if n = 1 then some (.discard window) else none)
  else if code = codeFlushAll then (if n = 0 then some .flushAll else none)
  else if code = codeEntryRead then
    (if n = 1 then some (.entryRead (.byNumber window))
    else if n = 4 then some (.entryRead (.byCounter window (BitVec.ofNat 24 (field args 1 3))))
    else none)
  else none

/-- The row that the rise of MSEL_N is, by the bytes received, where the port state captured at the fall was IDLE
or RESPONSE_READY (R171, R172, R174). Bytes after the declared arguments are ignored. -/
def parseFrame (bytes : List Byte) : Instr :=
  match bytes with
  | code :: l0 :: l1 :: rest =>
    if code = codeNop then .nop
    else
      let n := natLE [l0, l1]
      if rest.length < n then .unassignedCommand bytes
      else
        match parseArgs code (rest.take n) with
        | some i => i
        | none => .unassignedCommand bytes
  | short => .frameWithoutCommand short

/-- The row that ends a frame, by the captured port state and the bytes received (R172). -/
def frameRow (capturedExecuting : Bool) (bytes : List Byte) : Instr :=
  match parseFrame bytes with
  | .frameWithoutCommand short => .frameWithoutCommand short
  | .nop => .nop
  | i => if capturedExecuting then .frameBusy bytes else i

/-- A command frame: code, argument length, arguments (10.6). -/
def mkFrame (code : Byte) (args : List Byte) : List Byte :=
  code :: (bytesLE 2 args.length ++ args)

/-- The argument bytes of WINDOW LOAD (10.6). -/
def loadBytes (a : LoadArgs) : List Byte :=
  bytesLE 1 a.window.toNat ++ bytesLE 5 a.storage.toNat ++ bytesLE 4 a.count.toNat ++ bytesLE 1 a.lanes.toNat ++
    bytesLE 5 a.aliasBase.toNat ++ bytesLE 1 (policyCode a.policy) ++ bytesLE 1 a.exponent.toNat

/-- The argument bytes of SNAPSHOT START (10.6). -/
def startBytes (a : StartArgs) : List Byte :=
  bytesLE 1 a.window.toNat ++ bytesLE 4 a.first.toNat ++ bytesLE 4 a.count.toNat ++ bytesLE 5 a.dest.toNat ++
    bytesLE 1 (modeCode a.mode)

/-- The MDI bytes of a PARAM SET (R179). -/
def paramSetBytes (p : Param) (v : BitVec 32) : List Byte :=
  mkFrame codeParamSet (bytesLE 1 (paramNumber p) ++ bytesLE 4 v.toNat)

/-- The MDI bytes of the frame that carries a management command; none for a row that is no assigned command. -/
def encodeFrame : Instr → Option (List Byte)
  | .nop => some (mkFrame codeNop [])
  | .windowLoad a => some (mkFrame codeWindowLoad (loadBytes a))
  | .windowArm w => some (mkFrame codeWindowArm (bytesLE 1 w.toNat))
  | .windowDrain w => some (mkFrame codeWindowDrain (bytesLE 1 w.toNat))
  | .windowRelease w => some (mkFrame codeWindowRelease (bytesLE 1 w.toNat))
  | .windowStatus w => some (mkFrame codeWindowStatus (bytesLE 1 w.toNat))
  | .snapshotStart a => some (mkFrame codeSnapshotStart (startBytes a))
  | .snapshotAbort => some (mkFrame codeSnapshotAbort [])
  | .snapshotStatus => some (mkFrame codeSnapshotStatus [])
  | .faultRead => some (mkFrame codeFaultRead [])
  | .retry w => some (mkFrame codeRetry (bytesLE 1 w.toNat))
  | .discard w => some (mkFrame codeDiscard (bytesLE 1 w.toNat))
  | .alertPop => some (mkFrame codeAlertPop [])
  | .flushAll => some (mkFrame codeFlushAll [])
  | .paramSetLowMark v => some (paramSetBytes .lowMark v)
  | .paramSetFlushAge v => some (paramSetBytes .flushAge v)
  | .paramSetPrescaler v => some (paramSetBytes .prescaler v)
  | .paramSetEnables v => some (paramSetBytes .enables v)
  | .paramGet p => some (mkFrame codeParamGet (bytesLE 1 (paramNumber p)))
  | .mgmtStatus => some (mkFrame codeMgmtStatus [])
  | .entryRead (.byNumber e) => some (mkFrame codeEntryRead (bytesLE 1 e.toNat))
  | .entryRead (.byCounter w i) => some (mkFrame codeEntryRead (bytesLE 1 w.toNat ++ bytesLE 3 i.toNat))
  | .softReset => some (mkFrame codeSoftReset [])
  | .hardReset | .requestTaken _ | .holdSlotRetry | .responseDelivery | .downstreamGrant
  | .downstreamRequestAccepted | .passThroughCompletion _ _ _ | .windowBecomesActive _ | .fetchReturn _ _
  | .writeBackReturn _ | .fetchError _ | .writeBackError _ | .destinationWriteReturn _
  | .destinationWriteError _ | .tableResponseAbsorbed _ _ _ | .snapResponseAbsorbed _ _
  | .orphanResponse _ _ _ | .tickAdvance | .frameStart | .frameWithoutCommand _ | .frameBusy _
  | .unassignedCommand _ | .windowQuiesce _ | .snapshotComplete | .snapshotEnd | .walkRetry
  | .flushAllComplete | .softResetClearing | .softResetEnd | .rstNReleased => none

/-- The command that a word of the opcode table's bits spells. The table gives no row any bits (98_reader.md:
n_rows_with_fixed 0), so no word spells a command. -/
def decodeTableWord (_nbits _w : Nat) : Option Instr :=
  none

end Sys2Proof
end

