-- ==== Sys2Proof/Config.lean ====
section
/-!
DEFINITION. What the HJ-256 fixes once and for all: the capacities of 1.4, the reset values and ranges of the
four parameters (R95, R179), and the two free values of the model, `Config.walkFirst` and
`Config.grantFirst`.
-/

namespace Sys2Proof.Config

/-- Waiter records of the pool (R67). -/
def waiterRecords : Nat := 64

/-- Records a response order list may hold (R49). -/
def listDepth : Nat := 8

/-- Places of the snapshot exception list (R128). -/
def exceptionPlaces : Nat := 16

/-- Records of the alert queue (R164). -/
def alertPlaces : Nat := 32

/-- Tags reserved for the update table (R116). -/
def tableReserve : Nat := 4

/-- Tags reserved for the snapshot engine (R116). -/
def snapReserve : Nat := 2

/-- The largest further-faults count (R154). -/
def furtherMax : Nat := 255

/-- The largest counter count of a window, 2^24 (R29). -/
def maxCounters : Nat := 2 ^ 24

/-- The end of the 40-bit address space (R29, R129). -/
def addressEnd : Nat := 2 ^ 40

/-- Defaults of the parameters (R95, R111). -/
def lowMarkDefault : Nat := 32
def flushAgeDefault : Nat := 4096
def prescalerDefault : Nat := 1024

/-- Ranges of the parameters (R95, R179). -/
def lowMarkMax : Nat := 128
def flushAgeMax : Nat := 65535
def prescalerMax : Nat := 65536
def enablesMax : Nat := 15

/-- FREE VALUE (assumption 1). R133 leaves open whether the snapshot walk or the hold slot is retried first at
a happening that is a retry for both. `walkFirst n` is the answer at the `n`-th such happening; it has no body,
so nothing can be proved about its value. -/
opaque walkFirst : Nat → Bool

/-- FREE VALUE (assumption 21). The rules leave open whether a grant of the memory port or the taking of the channel's
head request comes first where both fall at once. `grantFirst n` is the answer at the `n`-th such happening; it has no
body, so nothing can be proved about its value. -/
opaque grantFirst : Nat → Bool

end Sys2Proof.Config
end

