-- ==== Sys2Proof/Machine/State.lean ====
section
/-!
DEFINITION. The state of the HJ-256: every piece of state the nine blocks of 1.3 hold, as plain data, with the
queue of commands not yet taken. INVENTORY.md lists each with its rule and its reset value.
-/

namespace Sys2Proof.Machine

/-! ### The window table (chapter 2) -/

/-- Width L of a window's counters, in lanes (R21). -/
inductive Width where
  | one
  | two
  | four
  deriving DecidableEq, Repr

/-- The state a FAULT window resumes (R37). -/
inductive Resume where
  | active
  | draining
  deriving DecidableEq, Repr

/-- The lifecycle states of R21. The resume state is present in FAULT only, so FAULT carries it. -/
inductive WinState where
  | empty
  | loaded
  | arming
  | active
  | draining
  | quiesced
  | fault (resume : Resume)
  deriving DecidableEq, Repr

/-- The configuration fields of R21. -/
structure WinConfig where
  storage : Addr
  count : Nat
  width : Width
  aliasBase : Addr
  policy : Policy
  exponent : Nat
  deriving DecidableEq, Repr

/-- One window-table entry (R21); the two counts are computed (R23, assumption 10). -/
structure Window where
  state : WinState
  config : Option WinConfig
  deriving DecidableEq, Repr

/-! ### Operations (chapter 1) -/

/-- The five planes of R4. -/
inductive Plane where
  | direct
  | add
  | sub
  | max
  | take
  deriving DecidableEq, Repr

/-- The six operations of R5. -/
inductive OpKind where
  | add
  | sub
  | max
  | set
  | read
  | take
  deriving DecidableEq, Repr

/-- An operation with its first lane `k`, its lane count `s/4` and its operand `x` (R7). -/
structure Operation where
  kind : OpKind
  lane : Nat
  lanes : Nat
  x : Nat
  deriving DecidableEq, Repr

/-- A decoded counter request: window, plane, counter index and operation (R4, R5, R7). -/
structure CounterOp where
  window : WinNo
  plane : Plane
  index : Nat
  op : Operation
  deriving DecidableEq, Repr

/-! ### The ingress unit (chapter 3) -/

/-- Statuses of an upstream response (R41). -/
inductive UpStatus where
  | done
  | refused
  | offline
  | noroom
  | memfault
  deriving DecidableEq, Repr

/-- The status and the data bytes of a READY record (R49). -/
structure Answer where
  status : UpStatus
  data : List Byte
  deriving DecidableEq, Repr

/-- A response record (R49). `key` is the number other blocks link to it by; `size` and `lane` say which lanes
of a reported value it takes (R50); `source` is the record it depends on (R56); `answer` is absent while it is
NOT READY. -/
structure Record where
  key : Nat
  kind : ReqKind
  size : Nat
  lane : Nat
  source : Option Nat
  answer : Option Answer
  deriving DecidableEq, Repr

/-- A response order list (R49); `nextKey` numbers its next record (the model's own field, assumption 16). -/
structure OrderList where
  records : List Record
  nextKey : Nat
  deriving DecidableEq, Repr

/-- A wide-read latch (R53). `upper` holds the latched lanes, lane `first` lowest. -/
inductive Latch where
  | empty
  | pending (window : WinNo) (index : Nat) (first : Nat) (source : Nat)
  | filled (window : WinNo) (index : Nat) (first : Nat) (upper : Nat)
  deriving DecidableEq, Repr

/-- Why the held request waits (R46). -/
inductive HoldReason where
  | arming
  | noEntry
  | noExceptionPlace
  | noCaptureSlot
  | noWaiter
  deriving DecidableEq, Repr

/-- The hold slot's contents (R46). -/
structure Held where
  request : Request
  decoded : CounterOp
  link : Nat
  reason : HoldReason
  deriving DecidableEq, Repr

/-! ### The update table (chapter 4) -/

/-- Why a fetch was started (R60). -/
inductive FetchCause where
  | resolve
  | flush
  deriving DecidableEq, Repr

/-- A waiter record in use (R67). -/
inductive Waiter where
  | op (o : Operation) (id : UpId) (link : Nat)
  | capture (slot : SlotNo)
  deriving DecidableEq, Repr

/-- The state of a non-FREE entry with the fields that R60 makes present in it alone. STRANDED has two forms, by
the failed-op kind. -/
inductive Body where
  | accum (d : Nat) (wrapPending : Bool)
  | fetch (d : Nat) (wrapPending : Bool) (cause : FetchCause)
  | held (v : Nat) (dirty : Bool)
  | write (v : Nat) (redirty : Bool)
  | strandedFetch (d : Nat) (wrapPending : Bool) (cause : FetchCause)
  | strandedWrite (v : Nat)
  deriving DecidableEq, Repr

/-- A non-FREE update-table entry (R60). -/
structure Entry where
  window : WinNo
  index : Nat
  body : Body
  waiters : List Waiter
  dirtySince : Option Ticks
  lastUse : Ticks
  flushAll : Bool
  captureRequested : Bool
  retry : Bool
  deriving DecidableEq, Repr

/-! ### The memory port (chapter 6) -/

/-- The owner of a tag, with the link R114 gives it. -/
inductive Owner where
  | pass (id : UpId) (link : Nat)
  | table (e : EntryNo)
  | snap (k : SlotNo)
  deriving DecidableEq, Repr

/-- The record of a tag in use (R114). -/
structure TagRecord where
  owner : Owner
  kind : ReqKind
  addr : Addr
  size : Nat
  deriving DecidableEq, Repr

/-- A downstream request (R112): one enable per byte and the data bytes, lowest address first, for a WRITE. -/
structure DownRequest where
  kind : ReqKind
  tag : Tag
  addr : Addr
  size : Nat
  enables : List Bool
  data : List Byte
  deriving DecidableEq, Repr

/-- The three claimants of R117. -/
inductive Claimant where
  | pass
  | table
  | snap
  deriving DecidableEq, Repr

/-! ### The snapshot engine (chapter 7) -/

/-- What a walk request lacked (R133). -/
inductive WalkLack where
  | noEntry
  | noWaiter
  deriving DecidableEq, Repr

/-- The ending result of an ABORTING snapshot (R126). -/
inductive Ending where
  | aborted
  | failed
  deriving DecidableEq, Repr

/-- The engine's state with the fields present in it alone (R126). -/
inductive SnapState where
  | idle
  | running (lack : Option WalkLack)
  | aborting (ending : Ending)
  deriving DecidableEq, Repr

/-- Window, first counter, count, destination, mode and cursor (R126). -/
structure SnapJob where
  window : WinNo
  first : Nat
  count : Nat
  dest : Addr
  mode : SnapMode
  cursor : Nat
  deriving DecidableEq, Repr

/-- A capture slot (R127). -/
inductive Slot where
  | free
  | requested (j : Nat)
  | captured (j : Nat) (v : Nat)
  | writing (j : Nat) (v : Nat) (t : Tag)
  deriving DecidableEq, Repr

/-- The last result (R126). -/
inductive SnapResult where
  | none
  | done
  | aborted
  | failed
  deriving DecidableEq, Repr

/-- The state of the snapshot engine (R126). -/
structure Snapshot where
  state : SnapState
  job : Option SnapJob
  exceptions : List Nat
  slots : Vector Slot 17
  writeOrder : List SlotNo
  lastResult : SnapResult
  failing : Option Nat
  done : Bool
  deriving DecidableEq, Repr

/-! ### Fault record and alerts (chapters 8 and 9) -/

/-- Kinds of memory fault (R154). -/
inductive FaultKind where
  | fetchFailed
  | writeFailed
  | snapWriteFailed
  deriving DecidableEq, Repr

/-- The fault a fault record holds (R154). -/
structure MemFault where
  kind : FaultKind
  window : WinNo
  index : Nat
  deriving DecidableEq, Repr

/-- The fault record (R154). -/
structure FaultRecord where
  first : Option MemFault
  further : Nat
  deriving DecidableEq, Repr

/-- Kinds of alert (R162). -/
inductive AlertKind where
  | level
  | wrapped
  | saturated
  deriving DecidableEq, Repr

/-- An alert record (R164). -/
structure Alert where
  kind : AlertKind
  window : WinNo
  index : Nat
  seq : BitVec 16
  deriving DecidableEq, Repr

/-! ### The management port (chapter 10) -/

/-- Statuses of a management response (10.6). -/
inductive Status where
  | ok
  | busy
  | badArgument
  | wrongState
  | overlap
  | conflict
  deriving DecidableEq, Repr

/-- A held response (R173). -/
structure Response where
  code : Byte
  status : Status
  results : List Byte
  deriving DecidableEq, Repr

/-- The two phases of the soft reset sequence (R182, R183). -/
inductive SoftPhase where
  | waitTags
  | waitDelivery
  deriving DecidableEq, Repr

/-- The command engine (R173). Only SOFT RESET leaves it EXECUTING, and the held response is present in
RESPONSE_READY alone. -/
inductive Engine where
  | idle
  | executing (phase : SoftPhase)
  | responseReady (r : Response)
  deriving DecidableEq, Repr

/-- The port state code a response frame shows (10.6). -/
inductive PortState where
  | idle
  | executing
  | responseReady
  deriving DecidableEq, Repr

/-- The contents of a response frame, fixed at the fall of MSEL_N (R172). -/
structure Captured where
  portState : PortState
  count : Byte
  code : Byte
  status : Status
  results : List Byte
  deriving DecidableEq, Repr

/-- The frame in progress (chapter 10). `live` is clear for a frame whose MSEL_N fall came before the end of the
hard reset (R185). -/
structure Frame where
  captured : Captured
  received : List Byte
  live : Bool
  deriving DecidableEq, Repr

/-! ### The whole part -/

/-- Every piece of state of the part, and the queue of commands. -/
structure State where
  /-- commands not yet taken, first in, first out -/
  pending : List Instr
  /-- requests presented on the upstream request channel, the head first (R42) -/
  channel : List Request
  /-- RST_N is asserted (R185) -/
  rstAsserted : Bool
  /-- window table (R21) -/
  windows : Vector Window 16
  /-- hold slot (R46) -/
  hold : Option Held
  /-- response order lists (R49) -/
  lists : Vector OrderList 16
  /-- wide-read latches (R53) -/
  latches : Vector Latch 16
  /-- response arbiter pointer (R52) -/
  respPtr : UpId
  /-- the ID whose response is presented (R52) -/
  presented : Option UpId
  /-- update-table entries; `none` is FREE (R60) -/
  entries : Vector (Option Entry) 256
  /-- dirty list (R69) -/
  dirty : List EntryNo
  /-- clean list (R71) -/
  clean : List EntryNo
  /-- issue queue (R72) -/
  issue : List EntryNo
  /-- tick count (R94) -/
  tick : Ticks
  /-- clock count since the last tick advance (R94) -/
  clock : Nat
  /-- low mark (R95) -/
  lowMark : Nat
  /-- flush age last set (R98) -/
  flushAge : Nat
  /-- flush age in effect (R98) -/
  flushAgeInEffect : Nat
  /-- tick prescaler (R94) -/
  prescaler : Nat
  /-- FLUSH ALL in progress (R106) -/
  flushAllRunning : Bool
  /-- flush-all-done flag (R108) -/
  flushAllDone : Bool
  /-- FLUSH ALL carry set (R106) -/
  carry : List EntryNo
  /-- tag records; `none` is free (R114) -/
  tags : Vector (Option TagRecord) 32
  /-- downstream arbiter pointer (R118) -/
  arbPtr : Claimant
  /-- second-grant mark (R119) -/
  secondGrant : Bool
  /-- request presented downstream (R120) -/
  downReq : Option DownRequest
  /-- snapshot engine (R126) -/
  snap : Snapshot
  /-- fault record (R154) -/
  faults : FaultRecord
  /-- alert queue (R164) -/
  alerts : List Alert
  /-- alert sequence counter (R163) -/
  alertSeq : BitVec 16
  /-- interrupt enables: ALERT 1, FAULT 2, SNAPSHOT 4, FLUSH 8 (R166, R179) -/
  enables : BitVec 4
  /-- command engine (R173) -/
  engine : Engine
  /-- taken-command count (R173) -/
  takenCount : BitVec 8
  /-- soft reset count (R184) -/
  softCount : BitVec 8
  /-- management frame in progress (R172) -/
  frame : Option Frame
  /-- how often the free values of assumptions 1 and 21 have been used -/
  choice : Nat
  deriving DecidableEq, Repr

/-- Faults of the step: there is none. A memory fault of the part is a change of state (chapter 8). -/
inductive Fault where
  deriving DecidableEq, Repr

/-- Refusals of the step. -/
inductive Refusal where
  /-- Raised by exec's arm of a command that has no meaning yet; safe. No arm raises it. -/
  | notModelled (mnemonic : String)
  deriving DecidableEq, Repr

/-- The snapshot engine after either reset (R147, R148). -/
def Snapshot.reset : Snapshot where
  state := .idle
  job := none
  exceptions := []
  slots := Vector.replicate 17 .free
  writeOrder := []
  lastResult := .none
  failing := none
  done := false

/-- The part right after a hard reset, with RST_N released again (R22, R58, R92, R111, R125, R148, R154, R170,
R185; assumption 7). -/
def State.reset : State where
  pending := []
  channel := []
  rstAsserted := false
  windows := Vector.replicate 16 { state := .empty, config := none }
  hold := none
  lists := Vector.replicate 16 { records := [], nextKey := 0 }
  latches := Vector.replicate 16 .empty
  respPtr := 15
  presented := none
  entries := Vector.replicate 256 none
  dirty := []
  clean := []
  issue := []
  tick := 0
  clock := 0
  lowMark := Config.lowMarkDefault
  flushAge := Config.flushAgeDefault
  flushAgeInEffect := Config.flushAgeDefault
  prescaler := Config.prescalerDefault
  flushAllRunning := false
  flushAllDone := false
  carry := []
  tags := Vector.replicate 32 none
  arbPtr := .snap
  secondGrant := false
  downReq := none
  snap := Snapshot.reset
  faults := { first := none, further := 0 }
  alerts := []
  alertSeq := 0
  enables := 0
  engine := .idle
  takenCount := 0
  softCount := 0
  frame := none
  choice := 0

end Sys2Proof.Machine
end

