-- ==== Sys2Proof/Machine/Flags.lean ====
section
/-!
DEFINITION. What each operation does to a counter's value, and the alertable outcomes it has (R9 to R18). The
outcomes are the block's flags: they are judged here and raised as alerts in Machine/Ops.lean.
-/

namespace Sys2Proof.Machine

/-- The lane count L (R21). -/
def Width.lanes : Width → Nat
  | .one => 1
  | .two => 2
  | .four => 4

/-- The width a WINDOW LOAD's lane count names, if legal (R29). -/
def Width.ofLanes (n : Nat) : Option Width :=
  if n = 1 then some .one else if n = 2 then some .two else if n = 4 then some .four else none

/-- Bytes of a counter, 4L (R1). -/
def Width.bytes (l : Width) : Nat :=
  4 * l.lanes

/-- The counter width W in bits (1.6). -/
def Width.bits (l : Width) : Nat :=
  32 * l.lanes

/-- 2^W, one more than the largest value M (1.6). -/
def Width.modulus (l : Width) : Nat :=
  2 ^ l.bits

/-- The amount x·2^(32k) of an ADD or SUB (R7). -/
def Operation.amount (o : Operation) : Nat :=
  o.x * 2 ^ (32 * o.lane)

/-- ADD is the one operation that needs no known value (R15, Note). -/
def OpKind.isAdd : OpKind → Bool
  | .add => true
  | _ => false

/-- The update operations: ADD, SUB, MAX, SET and TAKE (1.5). -/
def OpKind.isUpdate : OpKind → Bool
  | .read => false
  | _ => true

/-- The posted operations: ADD, SUB, MAX and SET (R19). -/
def OpKind.isPosted : OpKind → Bool
  | .read | .take => false
  | _ => true

/-- The sum of two values under a window's policy: modulo 2^W, or clamped at M (R9, R10, R75). -/
def policySum (p : Policy) (l : Width) (a b : Nat) : Nat :=
  match p with
  | .wrap => (a + b) % l.modulus
  | .saturate => min (a + b) (l.modulus - 1)

/-- Crossing the level (R16). -/
def crosses (exponent old new : Nat) : Bool :=
  decide (exponent ≠ 0 ∧ old < 2 ^ exponent ∧ 2 ^ exponent ≤ new)

/-- The overflow outcome of adding `a` to `old`, where `marked` says that the run's delta already wrapped or was
clamped (R9, R10, R18). -/
def overflowOutcome (p : Policy) (l : Width) (old a : Nat) (marked : Bool) : List AlertKind :=
  match p with
  | .wrap => if l.modulus ≤ old + a ∨ marked = true then [.wrapped] else []
  | .saturate =>
    if old < l.modulus - 1 ∧ (l.modulus ≤ old + a ∨ marked = true) then [.saturated] else []

/-- LEVEL, if the level is crossed (R16, R162). -/
def levelOutcome (exponent old new : Nat) : List AlertKind :=
  if crosses exponent old new then [.level] else []

/-- SET: the addressed lanes replaced (R13). -/
def setLanes (v lane lanes x : Nat) : Nat :=
  v % 2 ^ (32 * lane) + x * 2 ^ (32 * lane) + v / 2 ^ (32 * (lane + lanes)) * 2 ^ (32 * (lane + lanes))

/-- The value after an operation applied to the known value `v` (R9 to R15). -/
def applyValue (c : WinConfig) (o : Operation) (v : Nat) : Nat :=
  match o.kind with
  | .add => policySum c.policy c.width v o.amount
  | .sub => v - o.amount
  | .max => if o.x ≤ v then v else o.x
  | .set => setLanes v o.lane o.lanes o.x
  | .read => v
  | .take => 0

/-- The alertable outcomes of an operation applied to the known value `v`, LEVEL first (R16, R17, R91). -/
def applyOutcomes (c : WinConfig) (o : Operation) (v : Nat) : List AlertKind :=
  match o.kind with
  | .add =>
    levelOutcome c.exponent v (applyValue c o v) ++ overflowOutcome c.policy c.width v o.amount false
  | .max | .set => levelOutcome c.exponent v (applyValue c o v)
  | .sub | .read | .take => []

/-- The value after a run of blind adds with delta `d` is applied to the memory value `m` (R18, R85). -/
def runValue (c : WinConfig) (d m : Nat) : Nat :=
  policySum c.policy c.width m d

/-- The outcomes of a run, judged once (R18, R85). -/
def runOutcomes (c : WinConfig) (d : Nat) (marked : Bool) (m : Nat) : List AlertKind :=
  levelOutcome c.exponent m (runValue c d m) ++ overflowOutcome c.policy c.width m d marked

/-- The wrap-pending mark after `amount` is folded into `d` (R75). -/
def foldMark (l : Width) (d amount : Nat) (marked : Bool) : Bool :=
  marked || decide (l.modulus ≤ d + amount)

/-- The bytes of the lanes from `lane` on that a request of `size` bytes addresses (R14, R20). -/
def laneBytes (v lane size : Nat) : List Byte :=
  bytesLE size (v / 2 ^ (32 * lane))

end Sys2Proof.Machine
end

