-- ==== Sys2Proof/Machine/Operands.lean ====
section
/-!
DEFINITION. The operand forms of the masters' requests: the ranges of a window and where they match (R4, R24),
how the window table answers a request's bytes (R24), the decoding of an address to plane, counter and lanes
(R4, R5, R7), and the access-form check (R6).
-/

namespace Sys2Proof.Machine

/-- A half-open range of byte addresses. -/
structure Range where
  lo : Nat
  hi : Nat
  deriving DecidableEq, Repr

/-- Two ranges have at least one byte address in common (R30). -/
def Range.overlaps (a b : Range) : Bool :=
  decide (max a.lo b.lo < min a.hi b.hi)

def Range.holds (a : Range) (x : Nat) : Bool :=
  decide (a.lo ≤ x ∧ x < a.hi)

/-- The span s_w = N × 4L (R4). -/
def WinConfig.span (c : WinConfig) : Nat :=
  c.count * c.width.bytes

/-- The storage range, which is the DIRECT plane (R4). -/
def WinConfig.storageRange (c : WinConfig) : Range :=
  ⟨c.storage.toNat, c.storage.toNat + c.span⟩

/-- The alias range: the four alias planes together (R4). -/
def WinConfig.aliasRange (c : WinConfig) : Range :=
  ⟨c.aliasBase.toNat, c.aliasBase.toNat + 4 * c.span⟩

/-- Where the storage range matches (R24). -/
def WinState.storageMatches : WinState → Bool
  | .arming | .active | .draining | .fault _ => true
  | .empty | .loaded | .quiesced => false

/-- Where the alias range matches (R24). -/
def WinState.aliasMatches : WinState → Bool
  | .arming | .active | .draining | .quiesced | .fault _ => true
  | .empty | .loaded => false

/-- The ranges of a window that match in its state (R24). -/
def Window.matching (x : Window) : List Range :=
  match x.config with
  | none => []
  | some c =>
    (if x.state.storageMatches then [c.storageRange] else []) ++
      (if x.state.aliasMatches then [c.aliasRange] else [])

/-- The bytes of a request, from its address to address plus size minus one (R40). -/
def requestRange (r : Request) : Range :=
  ⟨r.addr.toNat, r.addr.toNat + r.size.bytes⟩

/-- The window table's answer about a request (R24). -/
inductive Class where
  | window (w : WinNo)
  | straddling
  | outside
  deriving DecidableEq, Repr

/-- The window in whose matching range the request's first byte lies, if any (R24). -/
def windowOf (ws : Vector Window 16) (r : Request) : Option WinNo :=
  (List.finRange 16).find? (fun w => ws[w].matching.any (fun g => g.holds r.addr.toNat))

/-- The classification of a request against the window states (R24). -/
def classify (ws : Vector Window 16) (r : Request) : Class :=
  match windowOf ws r with
  | some w => .window w
  | none => if ws.toList.any (fun x => x.matching.any (fun g => g.overlaps (requestRange r))) then .straddling else .outside

/-- First address of a plane (R4). -/
def WinConfig.planeBase (c : WinConfig) : Plane → Nat
  | .direct => c.storage.toNat
  | .add => c.aliasBase.toNat
  | .sub => c.aliasBase.toNat + c.span
  | .max => c.aliasBase.toNat + 2 * c.span
  | .take => c.aliasBase.toNat + 3 * c.span

/-- The plane whose range holds an address (R4). -/
def WinConfig.planeOf (c : WinConfig) (a : Nat) : Option Plane :=
  [Plane.direct, .add, .sub, .max, .take].find? (fun p =>
    decide (c.planeBase p ≤ a ∧ a < c.planeBase p + c.span))

/-- The operation a plane and a request kind select; none is REFUSED (R5). -/
def planeOperation (p : Plane) (k : ReqKind) : Option OpKind :=
  match k, p with
  | .read, .take => some .take
  | .read, _ => some .read
  | .write, .direct => some .set
  | .write, .add => some .add
  | .write, .sub => some .sub
  | .write, .max => some .max
  | .write, .take => none

/-- The operand x of a WRITE: its data bytes, little-endian (R7). -/
def requestOperand (r : Request) : Nat :=
  match r.kind with
  | .read => 0
  | .write => r.data.toNat % 2 ^ (8 * r.size.bytes)

/-- Every byte enable of the request's size is set (R6, condition 4). -/
def allEnabled (r : Request) : Bool :=
  decide (r.enables.toNat % 2 ^ r.size.bytes = 2 ^ r.size.bytes - 1)

/-- The byte offset of a request within its counter (R4). -/
def WinConfig.byteOffset (c : WinConfig) (p : Plane) (a : Nat) : Nat :=
  (a - c.planeBase p) % c.width.bytes

/-- The counter index of an address in a plane (R4). -/
def WinConfig.counterIndex (c : WinConfig) (p : Plane) (a : Nat) : Nat :=
  (a - c.planeBase p) / c.width.bytes

/-- The access-form check R6 of a request in plane `p`, for the operation `k` it would perform. -/
def legalForm (c : WinConfig) (p : Plane) (k : OpKind) (r : Request) : Bool :=
  let o := c.byteOffset p r.addr.toNat
  decide (r.size.bytes ≤ 16) &&
    decide (r.addr.toNat % r.size.bytes = 0) &&
    decide (o + r.size.bytes ≤ c.width.bytes) &&
    (decide (r.kind = .read) || allEnabled r) &&
    (match k with
     | .max | .take => decide (r.size.bytes = c.width.bytes ∧ o = 0)
     | _ => true)

/-- The decoding of a counter request of window `w`: none where it fails the access-form check (R4 to R7). -/
def decodeCounter (w : WinNo) (c : WinConfig) (r : Request) : Option CounterOp :=
  match c.planeOf r.addr.toNat with
  | none => none
  | some p =>
    match planeOperation p r.kind with
    | none => none
    | some k =>
      if legalForm c p k r then
        some
          { window := w
            plane := p
            index := c.counterIndex p r.addr.toNat
            op :=
              { kind := k
                lane := c.byteOffset p r.addr.toNat / 4
                lanes := r.size.bytes / 4
                x := requestOperand r } }
      else none

/-- Byte address of counter `i` (R1). -/
def WinConfig.counterAddr (c : WinConfig) (i : Nat) : Addr :=
  BitVec.ofNat 40 (c.storage.toNat + c.width.bytes * i)

end Sys2Proof.Machine
end

