-- ==== Sys2Proof/Machine/Ops.lean ====
section
/-!
DEFINITION. The named operations over the part's state that every block shares: reading and writing one window,
entry, list, latch, tag or capture slot; the counts of R23, R63 and R67; pressure (R100); answering records and
reporting values (R50, R55); raising alerts (R162 to R164); handing faults over (R154); handing a captured value
to its slot (R138); freeing an entry (R65); the interrupt line (R166, R167).
-/

namespace Sys2Proof.Machine

/-! ### One home for each piece of state -/

def State.window (s : State) (w : WinNo) : Window :=
  s.windows[w]

def State.setWindow (s : State) (w : WinNo) (x : Window) : State :=
  { s with windows := s.windows.set w.val x w.isLt }

/-- Change a window's state and keep its configuration. -/
def State.setWinState (s : State) (w : WinNo) (x : WinState) : State :=
  s.setWindow w { s.window w with state := x }

def State.entry (s : State) (e : EntryNo) : Option Entry :=
  s.entries[e]

def State.setEntry (s : State) (e : EntryNo) (x : Option Entry) : State :=
  { s with entries := s.entries.set e.val x e.isLt }

def State.list (s : State) (id : UpId) : OrderList :=
  s.lists[id]

def State.setList (s : State) (id : UpId) (x : OrderList) : State :=
  { s with lists := s.lists.set id.val x id.isLt }

def State.latch (s : State) (id : UpId) : Latch :=
  s.latches[id]

def State.setLatch (s : State) (id : UpId) (x : Latch) : State :=
  { s with latches := s.latches.set id.val x id.isLt }

def State.tagAt (s : State) (t : Tag) : Option TagRecord :=
  s.tags[t]

def State.setTag (s : State) (t : Tag) (x : Option TagRecord) : State :=
  { s with tags := s.tags.set t.val x t.isLt }

def State.slot (s : State) (k : SlotNo) : Slot :=
  s.snap.slots[k]

def State.setSlot (s : State) (k : SlotNo) (x : Slot) : State :=
  { s with snap := { s.snap with slots := s.snap.slots.set k.val x k.isLt } }

/-- The configuration an absent one stands for in states no run reaches (assumption 17). -/
def noConfig : WinConfig where
  storage := 0
  count := 0
  width := .one
  aliasBase := 0
  policy := .wrap
  exponent := 0

/-- The configuration of a window (R21). -/
def State.config (s : State) (w : WinNo) : WinConfig :=
  (s.window w).config.getD noConfig

/-! ### Counts and conditions -/

/-- FREE entries (R63). -/
def State.freeCount (s : State) : Nat :=
  s.entries.toList.countP Option.isNone

/-- A non-FREE entry of window `w`. -/
def belongsTo (w : WinNo) : Option Entry → Bool
  | some x => decide (x.window = w)
  | none => false

def Body.isStranded : Body → Bool
  | .strandedFetch _ _ _ | .strandedWrite _ => true
  | .accum _ _ | .fetch _ _ _ | .held _ _ | .write _ _ => false

def Body.isFetch : Body → Bool
  | .fetch _ _ _ => true
  | _ => false

/-- A STRANDED entry. -/
def isStranded : Option Entry → Bool
  | some x => x.body.isStranded
  | none => false

/-- The entry count of a window: its non-FREE entries (R23). -/
def State.entryCount (s : State) (w : WinNo) : Nat :=
  s.entries.toList.countP (belongsTo w)

/-- The stranded count of a window: its STRANDED entries and those under retry (R23, R156). -/
def State.strandedCount (s : State) (w : WinNo) : Nat :=
  s.entries.toList.countP (fun o =>
    belongsTo w o && (match o with
      | some x => x.body.isStranded || x.retry
      | none => false))

/-- Waiter records of an entry in use (R67). -/
def waitersOf : Option Entry → Nat
  | some x => x.waiters.length
  | none => 0

/-- Waiter records in the pool (R67). -/
def State.freeWaiters (s : State) : Nat :=
  Config.waiterRecords - (s.entries.toList.map waitersOf).sum

/-- Free tags (R114). -/
def State.freeTags (s : State) : Nat :=
  s.tags.toList.countP Option.isNone

/-- Response records owed across all IDs (R183). -/
def State.owed (s : State) : Nat :=
  (s.lists.toList.map (fun l => l.records.length)).sum

/-- Pressure: the entries the table can give are fewer than the low mark (R100). -/
def State.pressure (s : State) : Bool :=
  decide (s.freeCount + s.clean.length < s.lowMark)

/-- From the taking of SOFT RESET to the clearing (R110, R124, R147). -/
def State.softInterval (s : State) : Bool :=
  decide (s.engine = .executing .waitTags)

/-- The soft reset sequence is running (R59). -/
def State.softRunning (s : State) : Bool :=
  match s.engine with
  | .executing _ => true
  | .idle | .responseReady _ => false

/-- The window drains: DRAINING, or FAULT with resume state DRAINING (R104). -/
def State.draining (s : State) (w : WinNo) : Bool :=
  decide ((s.window w).state = .draining ∨ (s.window w).state = .fault .draining)

/-- The entry of a counter (R62). -/
def State.lookup (s : State) (w : WinNo) (i : Nat) : Option EntryNo :=
  (List.finRange 256).find? (fun e =>
    match s.entry e with
    | some x => decide (x.window = w ∧ x.index = i)
    | none => false)

/-- The tag an entry holds (R72). -/
def State.tagOf (s : State) (e : EntryNo) : Option Tag :=
  (List.finRange 32).find? (fun t =>
    match s.tagAt t with
    | some r => decide (r.owner = .table e)
    | none => false)

/-- Every slot of the snapshot engine is FREE (R140, R142). -/
def State.slotsFree (s : State) : Bool :=
  s.snap.slots.toList.all (fun x => decide (x = .free))

/-- The snapshot engine is RUNNING (R126). -/
def SnapState.isRunning : SnapState → Bool
  | .running _ => true
  | .idle | .aborting _ => false

/-- The failed-op kind an entry shows (R60). -/
def Entry.failedOp (x : Entry) : Option FaultKind :=
  match x.body with
  | .strandedFetch _ _ _ => some .fetchFailed
  | .strandedWrite _ => some .writeFailed
  | .fetch _ _ _ => if x.retry then some .fetchFailed else none
  | .write _ _ => if x.retry then some .writeFailed else none
  | .accum _ _ | .held _ _ => none

/-! ### Response records (R49, R50, R55) -/

/-- Append a NOT READY record for a taken request (R49). `lane` is the first lane its data is taken from. -/
def State.appendRecord (s : State) (r : Request) (lane : Nat) : State :=
  let l := s.list r.id
  s.setList r.id
    { records := l.records ++
        [{ key := l.nextKey, kind := r.kind, size := r.size.bytes, lane := lane, source := none, answer := none }]
      nextKey := l.nextKey + 1 }

/-- The answer of a status other than DONE: all-zero data for a READ, none for a WRITE (R41). -/
def Record.failure (r : Record) (st : UpStatus) : Answer :=
  { status := st
    data := match r.kind with
      | .read => bytesLE r.size 0
      | .write => [] }

/-- Make the records that `which` picks READY, those that are READY keeping their answer (R49). -/
def answerRecords (which : Record → Bool) (how : Record → Answer) (rs : List Record) : List Record :=
  rs.map (fun r => if which r && r.answer.isNone then { r with answer := some (how r) } else r)

/-- Make record `key` of an ID READY with the data `data` (R50). -/
def State.answerDone (s : State) (id : UpId) (key : Nat) (data : List Byte) : State :=
  s.setList id { s.list id with
    records := answerRecords (fun r => decide (r.key = key)) (fun _ => { status := .done, data := data })
      (s.list id).records }

/-- Make record `key` of an ID READY with a status other than DONE (R50). -/
def State.answerFailure (s : State) (id : UpId) (key : Nat) (st : UpStatus) : State :=
  s.setList id { s.list id with
    records := answerRecords (fun r => decide (r.key = key)) (fun r => r.failure st) (s.list id).records }

/-- The record of a result, and its dependents (R55). -/
def Record.takesResult (key : Nat) (r : Record) : Bool :=
  decide (r.key = key ∨ r.source = some key)

/-- The update table reports the value `v` for a READ or TAKE: the record and its dependents take their lanes,
and a latch whose source it is becomes FILLED (R50, R55). -/
def State.reportValue (s : State) (id : UpId) (key v : Nat) : State :=
  let s1 := s.setList id { s.list id with
    records := answerRecords (Record.takesResult key)
      (fun r => { status := .done, data := laneBytes v r.lane r.size }) (s.list id).records }
  match s.latch id with
  | .pending w i j src => if src = key then s1.setLatch id (.filled w i j (v / 2 ^ (32 * j))) else s1
  | .empty | .filled _ _ _ _ => s1

/-- The update table reports failure of a READ or TAKE (R55). -/
def State.reportFailure (s : State) (id : UpId) (key : Nat) (st : UpStatus) : State :=
  let s1 := s.setList id { s.list id with
    records := answerRecords (Record.takesResult key) (fun r => r.failure st) (s.list id).records }
  match s.latch id with
  | .pending _ _ _ src => if src = key then s1.setLatch id .empty else s1
  | .empty | .filled _ _ _ _ => s1

/-! ### Alerts and faults -/

/-- Raise one alert: it takes the sequence number, and is queued or dropped (R163, R164). -/
def State.raiseOne (s : State) (w : WinNo) (i : Nat) (k : AlertKind) : State :=
  { s with
    alertSeq := s.alertSeq + 1
    alerts :=
      if s.alerts.length < Config.alertPlaces then
        s.alerts ++ [{ kind := k, window := w, index := i, seq := s.alertSeq }]
      else s.alerts }

/-- Raise the alerts found at one happening, in order (R162). -/
def State.raise (s : State) (w : WinNo) (i : Nat) (ks : List AlertKind) : State :=
  ks.foldl (fun t k => t.raiseOne w i k) s

/-- Hand a fault to the fault record (R154). -/
def State.handFault (s : State) (k : FaultKind) (w : WinNo) (i : Nat) : State :=
  match s.faults.first with
  | none => { s with faults := { first := some { kind := k, window := w, index := i }, further := 0 } }
  | some f => { s with faults := { first := some f, further := min (s.faults.further + 1) Config.furtherMax } }

/-! ### The interrupt line (R166, R167) -/

/-- The four sources, weights 1, 2, 4 and 8 (R166, 10.6). -/
def State.sources (s : State) : Nat :=
  (if s.alerts ≠ [] then 1 else 0) + (if s.faults.first ≠ none then 2 else 0) +
    (if s.snap.done = true then 4 else 0) + (if s.flushAllDone = true then 8 else 0)

/-- IRQ_N is low (R167). -/
def State.irqLow (s : State) : Bool :=
  decide (BitVec.ofNat 4 s.sources &&& s.enables ≠ 0)

/-! ### Entries and the ordered lists -/

/-- An entry returns to FREE and leaves whatever collection it stands in (R65). -/
def State.freeEntry (s : State) (e : EntryNo) : State :=
  { s.setEntry e none with
    dirty := s.dirty.filter (fun x => decide (x ≠ e))
    clean := s.clean.filter (fun x => decide (x ≠ e))
    issue := s.issue.filter (fun x => decide (x ≠ e))
    carry := s.carry.filter (fun x => decide (x ≠ e)) }

/-- Free several entries, in order. -/
def State.freeEntries (s : State) (es : List EntryNo) : State :=
  es.foldl State.freeEntry s

/-- The age of an entry's oldest unwritten work, modulo 2^32 (R94, R99). -/
def State.age (s : State) (e : EntryNo) : Nat :=
  match s.entry e with
  | some x => match x.dirtySince with
    | some d => (s.tick - d).toNat
    | none => 0
  | none => 0

/-- Join the dirty list behind every entry at least as old and ahead of every younger one (R69). Where the list is
out of the order of ages, because an entry's work is more than 2^32 ticks old and its age has wrapped, no place may meet
both: the entry then joins ahead of the first younger one (DESIGN CHOICE, assumption 22). -/
def State.insertByAge (s : State) (e : EntryNo) : List EntryNo → List EntryNo
  | [] => [e]
  | x :: xs => if s.age e ≤ s.age x then x :: s.insertByAge e xs else e :: x :: xs

/-- Join the tail of the clean list with lastUse renewed; an entry of the list leaves it first (R71). -/
def State.joinClean (s : State) (e : EntryNo) : State :=
  { s with clean := s.clean.filter (fun x => decide (x ≠ e)) ++ [e] }

/-! ### Capture slots (R127, R138) -/

/-- A capture is taken: its slot goes from REQUESTED to CAPTURED and joins the write order, and the walk's
capture advances the cursor (R134, R138). -/
def State.slotCaptured (s : State) (k : SlotNo) (v : Nat) : State :=
  match s.slot k with
  | .requested j =>
    let t := s.setSlot k (.captured j v)
    { t with snap := { t.snap with
        writeOrder := s.snap.writeOrder ++ [k]
        job := if k = 16 then s.snap.job.map (fun b => { b with cursor := b.cursor + 1 }) else s.snap.job } }
  | .free | .captured _ _ | .writing _ _ _ => s

/-- The mode of the snapshot is COPY_CLEAR (R83). -/
def State.clearing (s : State) : Bool :=
  match s.snap.job with
  | some b => decide (b.mode = .copyClear)
  | none => false

end Sys2Proof.Machine
end

