-- ==== Sys2Proof/Machine/Table.lean ====
section
/-!
DEFINITION. The update table (chapter 4): allocation and reclaim, what an offer needs, the acceptance of each
operation in each entry state, captures, and what a fetch return or a write-back return with OK does to the
entry. What follows such a return in the window table and the snapshot engine stands in Machine/Faults.lean.
-/

namespace Sys2Proof.Machine

/-! ### Small changes of one entry -/

/-- Change entry `e`, if it is not FREE. -/
def State.mapEntry (s : State) (e : EntryNo) (f : Entry → Entry) : State :=
  match s.entry e with
  | some x => s.setEntry e (some (f x))
  | none => s

/-- The value V, present in HELD and WRITE (and in STRANDED after a failed write-back, where no operation is
applied to it) (R60). -/
def Body.liveValue : Body → Option Nat
  | .held v _ | .write v _ => some v
  | .accum _ _ | .fetch _ _ _ | .strandedFetch _ _ _ | .strandedWrite _ => none

/-- Replace V in HELD and WRITE. -/
def Body.withValue (b : Body) (v : Nat) : Body :=
  match b with
  | .held _ d => .held v d
  | .write _ r => .write v r
  | .accum _ _ | .fetch _ _ _ | .strandedFetch _ _ _ | .strandedWrite _ => b

/-- The stamp dirtySince, set to the current tick count when absent (R70). -/
def State.stamp (s : State) (x : Entry) : Option Ticks :=
  some (x.dirtySince.getD s.tick)

/-- An update operation, or a capture under COPY_CLEAR, on an entry in HELD or WRITE: the dirty mark and the
dirty list in HELD, the redirty mark in WRITE where the entry holds its tag (R70, R79, R80). -/
def State.markUpdate (s : State) (e : EntryNo) : State :=
  match s.entry e with
  | none => s
  | some x =>
    match x.body with
    | .held v true => s.setEntry e (some { x with body := .held v true, dirtySince := s.stamp x })
    | .held v false =>
      { s.setEntry e (some { x with body := .held v true, dirtySince := s.stamp x }) with
        clean := s.clean.filter (fun y => decide (y ≠ e))
        dirty := s.dirty ++ [e] }
    | .write v r =>
      s.setEntry e (some { x with body := .write v (r || (s.tagOf e).isSome), dirtySince := s.stamp x })
    | .accum _ _ | .fetch _ _ _ | .strandedFetch _ _ _ | .strandedWrite _ => s

/-- A READ, or a capture under COPY, on an entry of the clean list is a use (R71). -/
def State.useClean (s : State) (e : EntryNo) : State :=
  match s.entry e with
  | none => s
  | some x =>
    match x.body with
    | .held _ false => s.joinClean e
    | .held _ true | .write _ _ | .accum _ _ | .fetch _ _ _ | .strandedFetch _ _ _ | .strandedWrite _ => s

/-! ### Allocation (R64, R65) -/

/-- The lowest-numbered FREE entry (R64). -/
def State.lowestFree (s : State) : Option EntryNo :=
  (List.finRange 256).find? (fun e => (s.entry e).isNone)

/-- The entry an allocation takes: the lowest-numbered FREE one, or the head of the clean list, reclaimed (R64,
R65). -/
def State.obtain (s : State) : Option (EntryNo × State) :=
  match s.lowestFree with
  | some e => some (e, s)
  | none =>
    match s.clean with
    | e :: rest => some (e, { s.setEntry e none with clean := rest })
    | [] => none

/-- An allocation can be made without waiting (R63). -/
def State.canObtain (s : State) : Bool :=
  s.lowestFree.isSome || decide (s.clean ≠ [])

/-- No entry is obtainable and every non-FREE entry is STRANDED (R48). -/
def State.allStranded (s : State) : Bool :=
  s.entries.toList.all isStranded && decide (s.clean = [])

/-- Allocate in ACCUM for an ADD (R74). -/
def State.allocAccum (s : State) (e : EntryNo) (w : WinNo) (i amount : Nat) : State :=
  { s.setEntry e (some
      { window := w, index := i, body := .accum amount false, waiters := [], dirtySince := some s.tick
        lastUse := s.tick, flushAll := false, captureRequested := false, retry := false }) with
    dirty := s.dirty ++ [e] }

/-- Allocate in FETCH with these waiters (R77, R81, R82). -/
def State.allocFetch (s : State) (e : EntryNo) (w : WinNo) (i : Nat) (ws : List Waiter) (update marked : Bool) :
    State :=
  { s.setEntry e (some
      { window := w, index := i, body := .fetch 0 false .resolve, waiters := ws
        dirtySince := if update then some s.tick else none
        lastUse := s.tick, flushAll := false, captureRequested := marked, retry := false }) with
    issue := s.issue ++ [e] }

/-! ### What an offer needs (R66, R82, R135) -/

/-- The counter's entry carries the capture-requested mark (R82). -/
def State.captureMarked (s : State) (w : WinNo) (i : Nat) : Bool :=
  match s.lookup w i with
  | none => false
  | some e =>
    match s.entry e with
    | some x => x.captureRequested
    | none => false

/-- The engine's answer to the question of R135. -/
def State.engineWantsCapture (s : State) (w : WinNo) (i : Nat) : Bool :=
  s.snap.state.isRunning &&
    (match s.snap.job with
     | some b =>
       decide (b.window = w ∧ b.first ≤ i ∧ i < b.first + b.count ∧ b.cursor ≤ i ∧ i ∉ s.snap.exceptions)
     | none => false)

/-- An operation offered on counter (w, i) carries an early capture (R82, R135). -/
def State.earlyCapture (s : State) (w : WinNo) (i : Nat) (k : OpKind) : Bool :=
  k.isUpdate && !s.captureMarked w i && s.engineWantsCapture w i

/-- The lowest-numbered FREE early slot (R127). -/
def State.earlySlot (s : State) : Option SlotNo :=
  (List.finRange 17).find? (fun k => decide (k ≠ 16) && decide (s.slot k = .free))

/-- Waiter records an offer needs, by the entry's state (R66); a STRANDED entry receives none, so its need can
never be met (R61, assumption 17). -/
def waiterNeed (x : Option Entry) (k : OpKind) (cap : Bool) : Nat :=
  match x with
  | none => if cap then 2 else if k.isAdd then 0 else 1
  | some x =>
    match x.body with
    | .accum _ _ => if cap then 2 else if k.isAdd then 0 else 1
    | .fetch _ _ _ => if cap then 2 else if k.isAdd && decide (x.waiters = []) then 0 else 1
    | .held _ _ | .write _ _ => 0
    | .strandedFetch _ _ _ | .strandedWrite _ => Config.waiterRecords + 1

/-- The counter's entry (R62). -/
def State.counterEntry (s : State) (w : WinNo) (i : Nat) : Option Entry :=
  match s.lookup w i with
  | some e => s.entry e
  | none => none

/-- The first lack of an offer, in the order of R66; none where it can be accepted. -/
def State.offerLack (s : State) (w : WinNo) (i : Nat) (k : OpKind) : Option HoldReason :=
  let cap := s.earlyCapture w i k
  if (s.lookup w i).isNone && !s.canObtain then some .noEntry
  else if cap && decide (Config.exceptionPlaces ≤ s.snap.exceptions.length) then some .noExceptionPlace
  else if cap && s.earlySlot.isNone then some .noCaptureSlot
  else if s.freeWaiters < waiterNeed (s.counterEntry w i) k cap then some .noWaiter
  else none

/-! ### Acceptance (R73 to R83) -/

/-- An operation applied at once to an entry in HELD or WRITE (R79, R80). -/
def State.applyNow (s : State) (e : EntryNo) (o : Operation) (id : UpId) (link : Nat) : State :=
  match s.entry e with
  | none => s
  | some x =>
    match x.body.liveValue with
    | none => s
    | some v =>
      let c := s.config x.window
      let s1 := s.raise x.window x.index (applyOutcomes c o v)
      let s2 := if o.kind.isPosted then s1 else s1.reportValue id link v
      let s3 := s2.setEntry e (some { x with body := x.body.withValue (applyValue c o v), lastUse := s.tick })
      if o.kind.isUpdate then s3.markUpdate e else s3.useClean e

/-- A capture taken at once on an entry in HELD or WRITE (R83). -/
def State.captureNow (s : State) (e : EntryNo) (k : SlotNo) : State :=
  match s.entry e with
  | none => s
  | some x =>
    match x.body.liveValue with
    | none => s
    | some v =>
      let s1 := s.slotCaptured k v
      if s.clearing then
        (s1.setEntry e (some { x with body := x.body.withValue 0, lastUse := s.tick })).markUpdate e
      else
        (s1.setEntry e (some { x with lastUse := s.tick })).useClean e

/-- Waiters appended to an entry in ACCUM, which turns to FETCH, or in FETCH (R77, R78, R81, R82). -/
def State.appendWaiters (s : State) (e : EntryNo) (ws : List Waiter) (update marked : Bool) : State :=
  match s.entry e with
  | none => s
  | some x =>
    let x1 := { x with
      waiters := x.waiters ++ ws
      lastUse := s.tick
      dirtySince := if update then s.stamp x else x.dirtySince
      captureRequested := x.captureRequested || marked }
    match x.body with
    | .accum d m =>
      { s.setEntry e (some { x1 with body := .fetch d m .resolve }) with
        dirty := s.dirty.filter (fun y => decide (y ≠ e))
        issue := s.issue ++ [e] }
    | .fetch _ _ _ => s.setEntry e (some x1)
    | .held _ _ | .write _ _ | .strandedFetch _ _ _ | .strandedWrite _ => s

/-- An ADD folded into D, in ACCUM or in FETCH with an empty waiter list (R75, R76). -/
def State.foldAdd (s : State) (e : EntryNo) (amount : Nat) : State :=
  s.mapEntry e (fun x =>
    let c := s.config x.window
    let x1 := { x with lastUse := s.tick, dirtySince := s.stamp x }
    match x.body with
    | .accum d m => { x1 with body := .accum (policySum c.policy c.width d amount) (foldMark c.width d amount m) }
    | .fetch d m q => { x1 with body := .fetch (policySum c.policy c.width d amount) (foldMark c.width d amount m) q }
    | .held _ _ | .write _ _ | .strandedFetch _ _ _ | .strandedWrite _ => x)

/-- The engine takes an early slot and an exception-list place for counter `i` (R136). -/
def State.takeEarly (s : State) (i : Nat) (k : SlotNo) : State :=
  let t := s.setSlot k (.requested i)
  { t with snap := { t.snap with exceptions := s.snap.exceptions ++ [i] } }

/-- The waiters an operation queues: its CAPTURE, if it carries one, then its own (R82). -/
def opWaiters (cap : Option SlotNo) (o : Operation) (id : UpId) (link : Nat) : List Waiter :=
  (match cap with
   | some k => [.capture k]
   | none => []) ++ [.op o id link]

/-- The table carries out an accepted operation, with its early capture's slot if it carries one (R73 to R83). -/
def State.carryOut (s : State) (w : WinNo) (i : Nat) (o : Operation) (id : UpId) (link : Nat)
    (cap : Option SlotNo) : State :=
  let blind := o.kind.isAdd && cap.isNone
  match s.lookup w i with
  | none =>
    match s.obtain with
    | none => s
    | some (e, t) =>
      if blind then t.allocAccum e w i o.amount
      else t.allocFetch e w i (opWaiters cap o id link) o.kind.isUpdate cap.isSome
  | some e =>
    match s.entry e with
    | none => s
    | some x =>
      match x.body with
      | .accum _ _ =>
        if blind then s.foldAdd e o.amount
        else s.appendWaiters e (opWaiters cap o id link) o.kind.isUpdate cap.isSome
      | .fetch _ _ _ =>
        if blind && decide (x.waiters = []) then s.foldAdd e o.amount
        else s.appendWaiters e (opWaiters cap o id link) o.kind.isUpdate cap.isSome
      | .held _ _ | .write _ _ =>
        match cap with
        | some k => (s.captureNow e k).applyNow e o id link
        | none => s.applyNow e o id link
      | .strandedFetch _ _ _ | .strandedWrite _ => s

/-- The table accepts an operation that lacks nothing (R66, R73, R136). -/
def State.accept (s : State) (w : WinNo) (i : Nat) (o : Operation) (id : UpId) (link : Nat) : State :=
  if s.earlyCapture w i o.kind then
    match s.earlySlot with
    | some k => (s.takeEarly i k).carryOut w i o id link (some k)
    | none => s
  else s.carryOut w i o id link none

/-! ### The walk's capture requests (R81) -/

/-- The lack of a walk request (R66, R133). -/
def State.walkLackOf (s : State) (w : WinNo) (i : Nat) : Option WalkLack :=
  if (s.lookup w i).isNone && !s.canObtain then some .noEntry
  else if s.freeWaiters < waiterNeed (s.counterEntry w i) .read false then some .noWaiter
  else none

/-- The table carries out the capture of counter (w, i) for slot `k`, which the engine has taken (R81). -/
def State.requestCapture (s : State) (w : WinNo) (i : Nat) (k : SlotNo) : State :=
  match s.lookup w i with
  | none =>
    match s.obtain with
    | none => s
    | some (e, t) => t.allocFetch e w i [.capture k] false true
  | some e =>
    match s.entry e with
    | none => s
    | some x =>
      match x.body with
      | .accum _ _ | .fetch _ _ _ => s.appendWaiters e [.capture k] false true
      | .held _ _ | .write _ _ => s.captureNow e k
      | .strandedFetch _ _ _ | .strandedWrite _ => s

def isCapture : Waiter → Bool
  | .capture _ => true
  | .op _ _ _ => false

/-- The table removes the CAPTURE waiters of a snapshot and clears the marks (R84). -/
def State.withdrawCaptures (s : State) : State :=
  { s with entries := s.entries.map (Option.map (fun x : Entry =>
      if x.captureRequested then
        { x with waiters := x.waiters.filter (fun y => !isCapture y), captureRequested := false }
      else x)) }

/-! ### Fetch returns (R85 to R87) -/

/-- What the waiters of a fetch return have built so far: the state, V, whether a waiter changed V, and whether
a capture under COPY_CLEAR has been taken. -/
structure WaiterRun where
  st : State
  v : Nat
  changed : Bool
  cleared : Bool

/-- Apply one waiter to the V left by the one before (R86). -/
def applyWaiter (c : WinConfig) (w : WinNo) (i : Nat) (a : WaiterRun) : Waiter → WaiterRun
  | .op o id link =>
    let v := applyValue c o a.v
    let t := a.st.raise w i (applyOutcomes c o a.v)
    { st := if o.kind.isPosted then t else t.reportValue id link a.v
      v := v
      changed := a.changed || decide (v ≠ a.v)
      cleared := a.cleared }
  | .capture k =>
    if a.st.clearing then
      { st := a.st.slotCaptured k a.v, v := 0, changed := a.changed || decide (a.v ≠ 0), cleared := true }
    else { a with st := a.st.slotCaptured k a.v }

/-- The run of blind adds, then the waiters in list order (R85, R86). -/
def State.runWaiters (s : State) (x : Entry) (d : Nat) (marked : Bool) (m : Nat) : WaiterRun :=
  let c := s.config x.window
  let t := s.raise x.window x.index (runOutcomes c d marked m)
  x.waiters.foldl (applyWaiter c x.window x.index) { st := t, v := runValue c d m, changed := false, cleared := false }

/-- The entry's next state at a fetch return (R87). `x` is the entry as it stood, `s` the state after the
waiters. -/
def State.settleFetched (s : State) (e : EntryNo) (x : Entry) (cause : FetchCause) (v : Nat) (dirty cleared : Bool) :
    State :=
  let x1 := { x with waiters := [], captureRequested := false, retry := false }
  if dirty then
    let since := if cleared then s.stamp x else x.dirtySince
    if decide (cause = .flush) || x.flushAll || s.draining x.window then
      { s.setEntry e (some { x1 with body := .write v false, dirtySince := since }) with issue := s.issue ++ [e] }
    else
      let t := s.setEntry e (some { x1 with body := .held v true, dirtySince := since })
      { t with dirty := t.insertByAge e s.dirty }
  else if s.draining x.window then s.freeEntry e
  else
    (s.setEntry e (some { x1 with
      body := .held v false, dirtySince := none, flushAll := false, lastUse := s.tick })).joinClean e

/-- A fetch of entry `e` returns OK with the memory value `m` (R85 to R87). -/
def State.fetched (s : State) (e : EntryNo) (m : Nat) : State :=
  match s.entry e with
  | none => s
  | some x =>
    match x.body with
    | .fetch d marked cause =>
      let r := s.runWaiters x d marked (m % (s.config x.window).width.modulus)
      r.st.settleFetched e x cause r.v (decide (d ≠ 0) || r.changed) r.cleared
    | .accum _ _ | .held _ _ | .write _ _ | .strandedFetch _ _ _ | .strandedWrite _ => s

/-! ### Write-back returns (R88, R89) -/

/-- The grant of a TABLE tag for a write: the redirty mark is clear and dirtySince becomes absent (R88). -/
def State.writeGranted (s : State) (e : EntryNo) : State :=
  s.mapEntry e (fun x =>
    match x.body with
    | .write v _ => { x with body := .write v false, dirtySince := none }
    | .accum _ _ | .fetch _ _ _ | .held _ _ | .strandedFetch _ _ _ | .strandedWrite _ => x)

/-- A write-back of entry `e` returns OK (R89); an entry of the FLUSH ALL carry set leaves it and is marked again
(R107). -/
def State.written (s : State) (e : EntryNo) : State :=
  match s.entry e with
  | none => s
  | some x =>
    match x.body with
    | .write v redirty =>
      let x1 := { x with flushAll := redirty && decide (e ∈ s.carry), retry := false }
      let t := { s with carry := s.carry.filter (fun y => decide (y ≠ e)) }
      if redirty then
        let u := t.setEntry e (some { x1 with body := .held v true })
        { u with dirty := u.insertByAge e t.dirty }
      else if t.draining x.window then t.freeEntry e
      else (t.setEntry e (some { x1 with body := .held v false, lastUse := s.tick })).joinClean e
    | .accum _ _ | .fetch _ _ _ | .held _ _ | .strandedFetch _ _ _ | .strandedWrite _ => s

end Sys2Proof.Machine
end

