-- ==== Sys2Proof/Machine/Snapshots.lean ====
section
/-!
DEFINITION. The snapshot engine (chapter 7): the walk (R132 to R134), completion (R140), leaving RUNNING with the
withdrawal of untaken captures (R141), the end of an ABORTING snapshot (R142), failure (R143, R144), and what a
destination write's response does (R139, R143).
-/

namespace Sys2Proof.Machine

/-- Step 1 of the walk: pass over the indices of the exception list at the cursor (R132). `n` bounds the number of
removals; each removes one place of the list. -/
def skipExceptions : Nat → SnapJob → List Nat → SnapJob × List Nat
  | 0, b, xs => (b, xs)
  | n + 1, b, xs =>
    if b.cursor < b.first + b.count ∧ b.cursor ∈ xs then
      skipExceptions n { b with cursor := b.cursor + 1 } (xs.filter (fun j => decide (j ≠ b.cursor)))
    else (b, xs)

/-- The snapshot completes: RUNNING, the cursor at f + n, every slot FREE (R140). -/
def State.completionCheck (s : State) : State :=
  match s.snap.job with
  | some b =>
    if s.snap.state.isRunning && decide (b.cursor = b.first + b.count) && s.slotsFree then
      { s with snap := { s.snap with state := .idle, lastResult := .done, done := true } }
    else s
  | none => s

/-- An ABORTING snapshot ends when every slot is FREE (R142). -/
def State.endCheck (s : State) : State :=
  match s.snap.state with
  | .aborting ending =>
    if s.slotsFree then
      { s with snap := { s.snap with
          state := .idle
          lastResult := match ending with
            | .aborted => .aborted
            | .failed => .failed
          done := true } }
    else s
  | .idle | .running _ => s

/-- Set the walk lack of a RUNNING snapshot (R132). -/
def State.setLack (s : State) (l : Option WalkLack) : State :=
  { s with snap := { s.snap with state := .running l } }

/-- A walk step (R132). None is made outside RUNNING, while the walk slot is not FREE, or in the soft reset
interval (R147). With the cursor at f + n no request is made, and a lack that stood before the step becomes none (DESIGN
CHOICE, assumption 23: R132 step 3 does not say). -/
def State.walkStep (s : State) : State :=
  if s.snap.state.isRunning && decide (s.slot 16 = .free) && !s.softInterval then
    match s.snap.job with
    | none => s
    | some b =>
      let (b1, xs) := skipExceptions s.snap.exceptions.length b s.snap.exceptions
      let t := { s with snap := { s.snap with job := some b1, exceptions := xs } }
      if b1.cursor < b1.first + b1.count then
        match t.walkLackOf b1.window b1.cursor with
        | some l => t.setLack (some l)
        | none => ((t.setLack none).setSlot 16 (.requested b1.cursor)).requestCapture b1.window b1.cursor 16
      else (t.setLack none).completionCheck
  else s

/-- The walk request that lacks something is made again (R133). -/
def State.retryWalk (s : State) : State :=
  match s.snap.state with
  | .running (some _) => s.walkStep
  | .running none | .idle | .aborting _ => s

/-- A REQUESTED slot becomes FREE (R141). -/
def Slot.withdrawn : Slot → Slot
  | .requested _ => .free
  | .free => .free
  | .captured j v => .captured j v
  | .writing j v t => .writing j v t

/-- The engine leaves RUNNING for ABORTING: untaken captures are withdrawn, REQUESTED slots become FREE, the
exception list is emptied (R141). -/
def State.leaveRunning (s : State) (ending : Ending) : State :=
  let t := s.withdrawCaptures
  { t with snap := { t.snap with
      state := .aborting ending
      exceptions := []
      slots := t.snap.slots.map Slot.withdrawn } }

/-- The snapshot fails with failing index `i` (R143 steps 3 to 5, R144). -/
def State.failSnapshot (s : State) (i : Nat) : State :=
  match s.snap.state with
  | .running _ =>
    let t := s.leaveRunning .failed
    { t with snap := { t.snap with failing := some i } }
  | .aborting .aborted => { s with snap := { s.snap with state := .aborting .failed, failing := some i } }
  | .aborting .failed | .idle => s

/-- Window `w` has entered FAULT on the stranding of counter index `i` (R144). -/
def State.snapshotFaulted (s : State) (w : WinNo) (i : Nat) : State :=
  match s.snap.job with
  | some b => if b.window = w then (s.failSnapshot i).endCheck else s
  | none => s

/-- A destination write of slot `k` returns OK (R139). -/
def State.destinationWritten (s : State) (k : SlotNo) : State :=
  let t := s.setSlot k .free
  let u := if k = 16 then t.walkStep else t
  (u.completionCheck).endCheck

/-- A destination write of slot `k` returns ERROR (R143). -/
def State.destinationFailed (s : State) (k : SlotNo) : State :=
  match s.slot k, s.snap.job with
  | .writing j _ _, some b =>
    (((s.setSlot k .free).handFault .snapWriteFailed b.window j).failSnapshot j).endCheck
  | _, _ => s.setSlot k .free

end Sys2Proof.Machine
end

