-- ==== Sys2Proof/Machine/WriteBack.lean ====
section
/-!
DEFINITION. The write-back engine (chapter 5): starting a flush, the age check, pressure freeing and flushing,
the drain, the tick, and the marks and completion of FLUSH ALL.
-/

namespace Sys2Proof.Machine

/-! ### Flushes (R96) -/

/-- Start a flush on an entry of the dirty list (R96). -/
def State.startFlush (s : State) (e : EntryNo) : State :=
  match s.entry e with
  | none => s
  | some x =>
    match x.body with
    | .accum d m =>
      { s.setEntry e (some { x with body := .fetch d m .flush }) with
        dirty := s.dirty.filter (fun y => decide (y ≠ e))
        issue := s.issue ++ [e] }
    | .held v true =>
      { s.setEntry e (some { x with body := .write v false }) with
        dirty := s.dirty.filter (fun y => decide (y ≠ e))
        issue := s.issue ++ [e] }
    | .held _ false | .fetch _ _ _ | .write _ _ | .strandedFetch _ _ _ | .strandedWrite _ => s

/-- Start flushes on several entries, in the order given (R96). -/
def State.startFlushes (s : State) (es : List EntryNo) : State :=
  es.foldl State.startFlush s

/-! ### Age (R98) -/

/-- The dirty-list heads whose age has reached the flush age in effect, one after another (R98). -/
def State.agedHeads (s : State) : List EntryNo :=
  if s.flushAgeInEffect = 0 then [] else s.dirty.takeWhile (fun e => decide (s.flushAgeInEffect ≤ s.age e))

/-- The age check (R98); none is made in the soft reset interval (R110). -/
def State.ageCheck (s : State) : State :=
  if s.softInterval then s else s.startFlushes s.agedHeads

/-! ### Pressure (R100 to R102) -/

/-- Under pressure every clean-list entry goes FREE, then flushes start on dirty-list heads until the issue queue
holds two entries (R101, R102). -/
def State.pressureAct (s : State) : State :=
  if s.softInterval || !s.pressure then s
  else
    let t := s.freeEntries s.clean
    t.startFlushes (t.dirty.take (2 - t.issue.length))

/-! ### Drain (R103) -/

/-- Entries of window `w` in a list of entry numbers. -/
def State.ofWindow (s : State) (w : WinNo) (es : List EntryNo) : List EntryNo :=
  es.filter (fun e => belongsTo w (s.entry e))

/-- A window enters DRAINING: its dirty-list entries are flushed and its clean-list entries freed (R103). -/
def State.drainStart (s : State) (w : WinNo) : State :=
  let t := s.startFlushes (s.ofWindow w s.dirty)
  t.freeEntries (t.ofWindow w t.clean)

/-! ### FLUSH ALL (R106, R108) -/

/-- The entries FLUSH ALL marks (R106, step 2). -/
def Body.flushMarked : Body → Bool
  | .accum _ _ | .held _ true | .fetch _ _ _ | .write _ _ => true
  | .held _ false | .strandedFetch _ _ _ | .strandedWrite _ => false

/-- An entry of the carry set: in WRITE, holding its tag, redirty (R106, step 3). -/
def State.carried (s : State) (e : EntryNo) : Bool :=
  match s.entry e with
  | some x =>
    (match x.body with
     | .write _ r => r
     | .accum _ _ | .held _ _ | .fetch _ _ _ | .strandedFetch _ _ _ | .strandedWrite _ => false) &&
      (s.tagOf e).isSome
  | none => false

/-- Steps 1 to 4 of R106. -/
def State.flushAllStart (s : State) : State :=
  let t := { s with
    flushAllDone := false
    flushAllRunning := true
    entries := s.entries.map (Option.map (fun x : Entry =>
      { x with flushAll := x.flushAll || x.body.flushMarked }))
    carry := (List.finRange 256).filter s.carried }
  t.startFlushes t.dirty

/-- Some entry carries the flush-all mark. -/
def State.anyFlushMark (s : State) : Bool :=
  s.entries.toList.any (fun o => match o with
    | some x => x.flushAll
    | none => false)

/-- FLUSH ALL completes (R108). -/
def State.flushAllCheck (s : State) : State :=
  if s.flushAllRunning && !s.anyFlushMark && decide (s.carry = []) then
    { s with flushAllRunning := false, flushAllDone := true }
  else s

/-! ### The tick (R94, R98, R104, R107) -/

/-- A dirty-list entry the drain check of a tick flushes (R104). -/
def State.drainPick (s : State) (e : EntryNo) : Bool :=
  match s.entry e with
  | some x => s.draining x.window
  | none => false

/-- A dirty-list entry the FLUSH ALL check of a tick flushes (R107). -/
def State.flushAllPick (s : State) (e : EntryNo) : Bool :=
  s.flushAllRunning &&
    (match s.entry e with
     | some x =>
       (match x.body with
        | .held _ true => x.flushAll
        | .held _ false | .accum _ _ | .fetch _ _ _ | .write _ _ | .strandedFetch _ _ _ | .strandedWrite _ => false)
     | none => false)

/-- The entries the three checks of a tick pick, in dirty-list order (R94, R96). -/
def State.tickPicks (s : State) : List EntryNo :=
  s.dirty.filter (fun e => decide (e ∈ s.agedHeads) || s.drainPick e || s.flushAllPick e)

/-- The tick count advances: the clock count restarts and the flush age takes effect, and the three checks are
made in one happening (R94, R98), but for the soft reset interval (R110). -/
def State.tickOnce (s : State) : State :=
  let t := { s with tick := s.tick + 1, clock := 0, flushAgeInEffect := s.flushAge }
  if t.softInterval then t else t.startFlushes t.tickPicks

end Sys2Proof.Machine
end

