-- ==== Sys2Proof/Machine/Faults.lean ====
section
/-!
DEFINITION. Memory faults and stranded entries (chapter 8), and the window-table transitions that happenings of
the table bring about: the stranding of an entry and its effects (R149 to R151), a window's entry into FAULT and
its exit (R37, R38), the success of a retry (R157), the re-entry of a RETRY (R156), the freeing of a DISCARD
(R159), the drain check (R35) and the arming check (R32, R33).
-/

namespace Sys2Proof.Machine

/-! ### The window table's own checks -/

/-- A PASS tag whose bytes lie in the storage range or the alias range of window `w` (R32). -/
def State.passTagIn (s : State) (w : WinNo) : Bool :=
  let c := s.config w
  s.tags.toList.any (fun o => match o with
    | some r =>
      (match r.owner with
       | .pass _ _ =>
         let g : Range := ⟨r.addr.toNat, r.addr.toNat + r.size⟩
         g.overlaps c.storageRange || g.overlaps c.aliasRange
       | .table _ | .snap _ => false)
    | none => false)

/-- The arming check of one window (R32, R33). -/
def State.armingCheck (s : State) (w : WinNo) : State :=
  if (s.window w).state = .arming ∧ s.passTagIn w = false then s.setWinState w .active else s

/-- The arming check of every window, made at each pass-through completion (R123). -/
def State.armingChecks (s : State) : State :=
  (List.finRange 16).foldl State.armingCheck s

/-- The hold slot holds a request of window `w`. -/
def State.holdsRequestOf (s : State) (w : WinNo) : Bool :=
  match s.hold with
  | some h => decide (h.decoded.window = w)
  | none => false

/-- The drain check of one window (R35). -/
def State.drainCheck (s : State) (w : WinNo) : State :=
  if (s.window w).state = .draining ∧ s.entryCount w = 0 ∧ s.holdsRequestOf w = false then
    s.setWinState w .quiesced
  else s

/-- The drain check of every window. -/
def State.drainChecks (s : State) : State :=
  (List.finRange 16).foldl State.drainCheck s

/-- A window in FAULT whose stranded count is 0 leaves it for its resume state, and entering DRAINING starts the
drain (R38, R103). -/
def State.faultExit (s : State) (w : WinNo) : State :=
  match (s.window w).state with
  | .fault r =>
    if s.strandedCount w = 0 then
      match r with
      | .active => s.setWinState w .active
      | .draining => (s.setWinState w .draining).drainStart w
    else s
  | .empty | .loaded | .arming | .active | .draining | .quiesced => s

/-- A window of which an entry has stranded goes to FAULT from ACTIVE or DRAINING, and fails the snapshot on it
at that entry (R37, R144, R151). -/
def State.enterFault (s : State) (w : WinNo) (i : Nat) : State :=
  match (s.window w).state with
  | .active => (s.setWinState w (.fault .active)).snapshotFaulted w i
  | .draining => (s.setWinState w (.fault .draining)).snapshotFaulted w i
  | .fault _ | .empty | .loaded | .arming | .quiesced => s

/-! ### Returns of a fetch or a write-back -/

/-- A retried entry's success may let its window leave FAULT (R157). -/
def State.retrySucceeded (s : State) (x : Entry) : State :=
  if x.retry then s.faultExit x.window else s

/-- A fetch returns OK: R85 to R87, then R157. -/
def State.fetchOk (s : State) (e : EntryNo) (m : Nat) : State :=
  match s.entry e with
  | some x => (s.fetched e m).retrySucceeded x
  | none => s

/-- A write-back returns OK: R89, then R157. -/
def State.writeOk (s : State) (e : EntryNo) : State :=
  match s.entry e with
  | some x => (s.written e).retrySucceeded x
  | none => s

/-- A READ or TAKE waiter, which a failed fetch answers (R149). -/
def answersLater : Waiter → Bool
  | .op o _ _ => !o.kind.isPosted
  | .capture _ => false

/-- Answer the READ and TAKE waiters of a list, in order (R93, R149). -/
def State.failWaiters (s : State) (ws : List Waiter) (st : UpStatus) : State :=
  ws.foldl (fun t y => match y with
    | .op o id link => if o.kind.isPosted then t else t.reportFailure id link st
    | .capture _ => t) s

/-- The effects of a stranding on the other blocks (R151). -/
def State.strandingEffects (s : State) (k : FaultKind) (w : WinNo) (i : Nat) : State :=
  (s.enterFault w i).handFault k w i

/-- A fetch returns ERROR (R149, R158). -/
def State.fetchFailed (s : State) (e : EntryNo) : State :=
  match s.entry e with
  | none => s
  | some x =>
    match x.body with
    | .fetch d m q =>
      let t := s.failWaiters x.waiters .memfault
      let u := t.setEntry e (some { x with
        body := .strandedFetch d m q
        waiters := x.waiters.filter (fun y => !answersLater y)
        flushAll := false
        retry := false })
      u.strandingEffects .fetchFailed x.window x.index
    | .accum _ _ | .held _ _ | .write _ _ | .strandedFetch _ _ _ | .strandedWrite _ => s

/-- A write-back returns ERROR (R150, R158). -/
def State.writeFailed (s : State) (e : EntryNo) : State :=
  match s.entry e with
  | none => s
  | some x =>
    match x.body with
    | .write v _ =>
      let t := s.setEntry e (some { x with
        body := .strandedWrite v
        dirtySince := s.stamp x
        flushAll := false
        retry := false })
      let u := { t with carry := s.carry.filter (fun y => decide (y ≠ e)) }
      u.strandingEffects .writeFailed x.window x.index
    | .accum _ _ | .held _ _ | .fetch _ _ _ | .strandedFetch _ _ _ | .strandedWrite _ => s

/-! ### RETRY and DISCARD -/

/-- The STRANDED entries of window `w`, in ascending entry number (R156, R159). -/
def State.strandedOf (s : State) (w : WinNo) : List EntryNo :=
  (List.finRange 256).filter (fun e => belongsTo w (s.entry e) && isStranded (s.entry e))

/-- A STRANDED entry re-enters its failed operation (R156). -/
def State.reenter (s : State) (e : EntryNo) : State :=
  match s.entry e with
  | none => s
  | some x =>
    match x.body with
    | .strandedFetch d m q =>
      { s.setEntry e (some { x with body := .fetch d m q, retry := true }) with issue := s.issue ++ [e] }
    | .strandedWrite v =>
      { s.setEntry e (some { x with body := .write v false, retry := true }) with issue := s.issue ++ [e] }
    | .accum _ _ | .held _ _ | .fetch _ _ _ | .write _ _ => s

/-- RETRY's re-entries (R156). -/
def State.reenterAll (s : State) (w : WinNo) : State :=
  (s.strandedOf w).foldl State.reenter s

/-- Some entry of window `w` has its retry mark set (R159, check 3). -/
def State.underRetry (s : State) (w : WinNo) : Bool :=
  s.entries.toList.any (fun o => belongsTo w o && (match o with
    | some x => x.retry
    | none => false))

/-- The kept waiter records of the STRANDED entries of window `w` (R159). -/
def State.keptRecords (s : State) (w : WinNo) : Nat :=
  ((s.strandedOf w).map (fun e => waitersOf (s.entry e))).sum

/-- DISCARD's freeings and the window's exit from FAULT (R159). -/
def State.discardAll (s : State) (w : WinNo) : State :=
  (s.freeEntries (s.strandedOf w)).faultExit w

end Sys2Proof.Machine
end

