-- ==== Sys2Proof/Machine/Ingress.lean ====
section
/-!
DEFINITION. The ingress unit (chapter 3): the treatment of a counter request (R45, R25, R26, R48, R54, R56, R57),
the hold slot (R46, R47), the taking conditions (R42), the taking of the head request, and the response arbiter
(R52).
-/

namespace Sys2Proof.Machine

/-! ### The wide-read latch -/

/-- A lane-0 partial READ (R54). -/
def Operation.setsLatch (o : Operation) (l : Width) : Bool :=
  decide (o.kind = .read ∧ o.lane = 0 ∧ o.lanes < l.lanes)

/-- Acceptance of an operation bears on its ID's latch: a lane-0 partial READ sets it, an update on the latch's
counter empties it (R54, R57). -/
def State.latchAtAcceptance (s : State) (w : WinNo) (i : Nat) (o : Operation) (id : UpId) (link : Nat) : State :=
  if o.setsLatch (s.config w).width then s.setLatch id (.pending w i o.lanes link)
  else if o.kind.isUpdate then
    match s.latch id with
    | .pending lw li _ _ => if lw = w ∧ li = i then s.setLatch id .empty else s
    | .filled lw li _ _ => if lw = w ∧ li = i then s.setLatch id .empty else s
    | .empty => s
  else s

/-- Link a record to the latch's source as a dependent (R56). -/
def linkRecord (key src : Nat) (rs : List Record) : List Record :=
  rs.map (fun r => if r.key = key then { r with source := some src } else r)

/-- The latch serves a READ of higher lanes; none where its three conditions do not hold (R56). -/
def State.latchServe (s : State) (w : WinNo) (i : Nat) (o : Operation) (id : UpId) (link : Nat) : Option State :=
  if o.kind = .read ∧ 1 ≤ o.lane then
    match s.latch id with
    | .empty => none
    | .pending lw li j src =>
      if lw = w ∧ li = i ∧ j ≤ o.lane ∧ o.lane + o.lanes ≤ (s.config w).width.lanes then
        some (s.setList id { s.list id with records := linkRecord link src (s.list id).records })
      else none
    | .filled lw li j upper =>
      if lw = w ∧ li = i ∧ j ≤ o.lane ∧ o.lane + o.lanes ≤ (s.config w).width.lanes then
        some (s.answerDone id link (laneBytes upper (o.lane - j) (4 * o.lanes)))
      else none
  else none

/-! ### The treatment of a counter request -/

/-- How the treatment of R45 ends: the request has been accepted or answered, or waits for a reason. -/
inductive Treated where
  | settled (s : State)
  | waits (reason : HoldReason)

/-- Steps 4 and 5 of R45: the latch, then the offer, which ends in acceptance, in a lack, or in NOROOM (R48). -/
def State.offer (s : State) (w : WinNo) (i : Nat) (o : Operation) (id : UpId) (link : Nat) : Treated :=
  match s.latchServe w i o id link with
  | some t => .settled t
  | none =>
    match s.offerLack w i o.kind with
    | some .noEntry =>
      if s.allStranded then .settled (s.answerFailure id link .noroom) else .waits .noEntry
    | some r => .waits r
    | none =>
      let t := (s.latchAtAcceptance w i o id link).accept w i o id link
      .settled (if o.kind.isPosted then t.answerDone id link [] else t)

/-- Step 3 of R45: in FAULT, a READ of a counter whose entry is STRANDED (R26). -/
def State.strandedCounter (s : State) (w : WinNo) (i : Nat) : Bool :=
  isStranded (s.counterEntry w i)

/-- Steps 2 to 5 of R45, against the state as it stands (R25, R26, R27). -/
def State.treat (s : State) (d : CounterOp) (id : UpId) (link : Nat) : Treated :=
  let offline := Treated.settled (s.answerFailure id link .offline)
  match (s.window d.window).state with
  | .arming => .waits .arming
  | .active => s.offer d.window d.index d.op id link
  | .draining => if d.op.kind = .read then s.offer d.window d.index d.op id link else offline
  | .fault _ =>
    if d.op.kind = .read then
      if s.strandedCounter d.window d.index then .settled (s.answerFailure id link .memfault)
      else s.offer d.window d.index d.op id link
    else offline
  | .empty | .loaded | .quiesced => offline

/-! ### The hold slot (R46, R47) -/

/-- The request in the hold slot is judged again; it leaves the slot unless it still waits (R27, R47). -/
def State.retryHold (s : State) : State :=
  match s.hold with
  | none => s
  | some h =>
    match s.treat h.decoded h.request.id h.link with
    | .settled t => { t with hold := none }
    | .waits r => { s with hold := some { h with reason := r } }

/-! ### Taking (R42 to R45) -/

/-- Taking conditions 1 to 3 of R42 for a request, with the part out of hard reset (assumption 6). -/
def State.mayTake (s : State) (r : Request) : Bool :=
  decide ((s.list r.id).records.length < Config.listDepth) && s.hold.isNone && !s.softRunning && !s.rstAsserted

/-- The taking of a counter request of window `w` (R45). The record is appended first. -/
def State.takeCounter (s : State) (w : WinNo) (r : Request) : State :=
  let link := (s.list r.id).nextKey
  match decodeCounter w (s.config w) r with
  | none => (s.appendRecord r 0).answerFailure r.id link .refused
  | some d =>
    let t := s.appendRecord r d.op.lane
    match t.treat d r.id link with
    | .settled u => u
    | .waits reason => { t with hold := some { request := r, decoded := d, link := link, reason := reason } }

/-- The head request is taken, if it needs no grant and its taking conditions hold (R42, R44, R45). -/
def State.takeHead (s : State) : Option State :=
  match s.channel with
  | [] => none
  | r :: rest =>
    if s.mayTake r then
      let t := { s with channel := rest }
      match classify s.windows r with
      | .outside => none
      | .straddling => some ((t.appendRecord r 0).answerFailure r.id (s.list r.id).nextKey .refused)
      | .window w => some (t.takeCounter w r)
    else none

/-- The PASS claim: the head request, where it classifies as "outside" and may be taken (R43, R117). -/
def State.passClaim (s : State) : Option Request :=
  match s.channel with
  | [] => none
  | r :: _ => if s.mayTake r && decide (classify s.windows r = .outside) then some r else none

/-! ### The response arbiter (R51, R52) -/

/-- The head record of an ID's list is READY. -/
def State.headReady (s : State) (id : UpId) : Bool :=
  match (s.list id).records with
  | [] => false
  | r :: _ => r.answer.isSome

/-- The IDs in the arbiter's order: from the one after the pointer, wrapping, to the pointer's own (R52). -/
def arbiterOrder (ptr : UpId) : List UpId :=
  (List.finRange 16).map (fun k => ptr + 1 + k)

/-- With the response channel free, the arbiter presents the first ID with a READY head (R52). -/
def State.chooseResponse (s : State) : State :=
  match s.presented with
  | some _ => s
  | none =>
    match (arbiterOrder s.respPtr).find? s.headReady with
    | some id => { s with presented := some id, respPtr := id }
    | none => s

/-- The response on the upstream response channel: the ID, and the answer of its head record (R51). -/
def State.responseOut (s : State) : Option (UpId × Answer) :=
  match s.presented with
  | none => none
  | some id =>
    match (s.list id).records with
    | [] => none
    | r :: _ => r.answer.map (fun a => (id, a))

/-- The presented response is accepted: the head record is removed and the channel is free (R51, R52). -/
def State.deliver (s : State) : State :=
  match s.presented with
  | none => s
  | some id =>
    { s.setList id { s.list id with records := (s.list id).records.drop 1 } with presented := none }

end Sys2Proof.Machine
end

