-- ==== Sys2Proof/Machine/Port.lean ====
section
/-!
DEFINITION. The memory port (chapter 6): admissible tags (R116), the claims (R117), the arbiter's choice (R118,
R119), the grant (R120, R43, R88, R139), and the arrival of a response, routed by its tag's record (R113, R115,
R121, R122).
-/

namespace Sys2Proof.Machine

/-! ### Tags (R114 to R116) -/

def Owner.claimant : Owner → Claimant
  | .pass _ _ => .pass
  | .table _ => .table
  | .snap _ => .snap

/-- A tag record of a claimant. -/
def heldBy (c : Claimant) : Option TagRecord → Bool
  | some r => decide (r.owner.claimant = c)
  | none => false

/-- Tags a claimant holds (R114). -/
def State.tagsOf (s : State) (c : Claimant) : Nat :=
  s.tags.toList.countP (heldBy c)

/-- The unused reservation of a claimant (R116). -/
def State.unusedReserve (s : State) : Claimant → Nat
  | .pass => 0
  | .table => Config.tableReserve - s.tagsOf .table
  | .snap => Config.snapReserve - s.tagsOf .snap

/-- The unused reservations of the two other claimants (R116). -/
def State.otherReserves (s : State) : Claimant → Nat
  | .pass => s.unusedReserve .table + s.unusedReserve .snap
  | .table => s.unusedReserve .pass + s.unusedReserve .snap
  | .snap => s.unusedReserve .pass + s.unusedReserve .table

/-- A tag is admissible for a claimant: after taking it the free tags are at least the unused reservations of the
two others (R116). -/
def State.admissible (s : State) (c : Claimant) : Bool :=
  decide (1 + s.otherReserves c ≤ s.freeTags)

/-- The lowest-numbered free tag (R115). -/
def State.lowestTag (s : State) : Option Tag :=
  (List.finRange 32).find? (fun t => (s.tagAt t).isNone)

/-! ### Claims (R117) -/

/-- The TABLE claim: the head of the issue queue, an entry in FETCH or WRITE. -/
def State.tableClaim (s : State) : Option EntryNo :=
  match s.issue with
  | [] => none
  | e :: _ =>
    match s.entry e with
    | some x =>
      (match x.body with
       | .fetch _ _ _ | .write _ _ => some e
       | .accum _ _ | .held _ _ | .strandedFetch _ _ _ | .strandedWrite _ => none)
    | none => none

/-- The SNAP claim: the head of the write order, a CAPTURED slot. -/
def State.snapClaim (s : State) : Option SlotNo :=
  match s.snap.writeOrder, s.snap.job with
  | k :: _, some _ =>
    (match s.slot k with
     | .captured _ _ => some k
     | .free | .requested _ | .writing _ _ _ => none)
  | _, _ => none

def State.claims (s : State) : Claimant → Bool
  | .pass => s.passClaim.isSome
  | .table => s.tableClaim.isSome
  | .snap => s.snapClaim.isSome

/-- A claim for which a tag is admissible (R117). -/
def State.eligible (s : State) (c : Claimant) : Bool :=
  s.claims c && s.admissible c

/-! ### The choice (R118, R119) -/

/-- The claimants from the one after the pointer, wrapping from SNAP to PASS (R118). -/
def rotation : Claimant → List Claimant
  | .pass => [.table, .snap, .pass]
  | .table => [.snap, .pass, .table]
  | .snap => [.pass, .table, .snap]

/-- The arbiter may make a choice: the channel is free, and the part is neither in the soft reset interval (R124)
nor held in hard reset (assumption 6). -/
def State.mayChoose (s : State) : Bool :=
  s.downReq.isNone && !s.softInterval && !s.rstAsserted

/-- The second grant of TABLE's turn (R119). -/
def State.secondGrantDue (s : State) : Bool :=
  decide (s.arbPtr = .table) && s.secondGrant && s.pressure && s.eligible .table

/-- The claimant chosen (R118, R119). -/
def State.chosen (s : State) : Option Claimant :=
  if s.mayChoose then
    if s.secondGrantDue then some .table else (rotation s.arbPtr).find? s.eligible
  else none

/-! ### The grant (R120) -/

/-- Bytes and enables of a whole write of `n` bytes (R112). -/
def wholeWrite (t : Tag) (a : Addr) (n v : Nat) : DownRequest :=
  { kind := .write, tag := t, addr := a, size := n, enables := List.replicate n true, data := bytesLE n v }

/-- A downstream read (R112). -/
def wholeRead (t : Tag) (a : Addr) (n : Nat) : DownRequest :=
  { kind := .read, tag := t, addr := a, size := n, enables := [], data := [] }

/-- A pass-through request goes downstream unchanged (R40, R112). -/
def passRequest (t : Tag) (r : Request) : DownRequest :=
  { kind := r.kind
    tag := t
    addr := r.addr
    size := r.size.bytes
    enables := match r.kind with
      | .read => []
      | .write => (List.range r.size.bytes).map (fun k => r.enables.getLsbD k)
    data := match r.kind with
      | .read => []
      | .write => bytesLE r.size.bytes r.data.toNat }

/-- Take tag `t` for an owner and present its request (R115, R120). -/
def State.issueRequest (s : State) (o : Owner) (q : DownRequest) : State :=
  { s.setTag q.tag (some { owner := o, kind := q.kind, addr := q.addr, size := q.size }) with downReq := some q }

/-- A PASS grant: the head request is taken and forwarded (R43, R121). -/
def State.grantPass (s : State) (t : Tag) : State :=
  match s.channel with
  | [] => s
  | r :: rest =>
    (({ s with channel := rest }).appendRecord r 0).issueRequest (.pass r.id (s.list r.id).nextKey) (passRequest t r)

/-- A TABLE grant: the head of the issue queue leaves it and issues its transaction (R72, R88). -/
def State.grantTable (s : State) (t : Tag) : State :=
  match s.issue with
  | [] => s
  | e :: rest =>
    match s.entry e with
    | none => s
    | some x =>
      let c := s.config x.window
      let a := c.counterAddr x.index
      let u := { s with issue := rest }
      match x.body with
      | .fetch _ _ _ => u.issueRequest (.table e) (wholeRead t a c.width.bytes)
      | .write v _ => (u.writeGranted e).issueRequest (.table e) (wholeWrite t a c.width.bytes v)
      | .accum _ _ | .held _ _ | .strandedFetch _ _ _ | .strandedWrite _ => s

/-- A SNAP grant: the head of the write order goes to WRITING (R139). -/
def State.grantSnap (s : State) (t : Tag) : State :=
  match s.snap.writeOrder, s.snap.job with
  | k :: rest, some b =>
    match s.slot k with
    | .captured j v =>
      let n := (s.config b.window).width.bytes
      let u := s.setSlot k (.writing j v t)
      ({ u with snap := { u.snap with writeOrder := rest } }).issueRequest (.snap k)
        (wholeWrite t (BitVec.ofNat 40 (b.dest.toNat + n * (j - b.first))) n v)
    | .free | .requested _ | .writing _ _ _ => s
  | _, _ => s

/-- The arbiter's choice and the grant it makes: pointer, second-grant mark, tag and request (R115, R118 to
R120). -/
def State.grant (s : State) : State :=
  match s.chosen, s.lowestTag with
  | some c, some t =>
    let u := { s with
      arbPtr := c
      secondGrant := if s.secondGrantDue then false else decide (c = Claimant.table) }
    match c with
    | .pass => u.grantPass t
    | .table => u.grantTable t
    | .snap => u.grantSnap t
  | _, _ => s

/-! ### Responses (R113, R121, R122) -/

/-- The low `n` bytes of a response's data, as an integer. -/
def responseValue (data : BitVec 512) (n : Nat) : Nat :=
  data.toNat % 2 ^ (8 * n)

/-- A pass-through completion: the record becomes READY, and the arming checks are made (R121, R123). -/
def State.passCompleted (s : State) (r : TagRecord) (id : UpId) (link : Nat) (ok : Bool) (data : BitVec 512) :
    State :=
  let t :=
    if ok then
      s.answerDone id link (match r.kind with
        | .read => bytesLE r.size (responseValue data r.size)
        | .write => [])
    else s.answerFailure id link .memfault
  t.armingChecks

/-- A TABLE response goes to its entry (R122); in the soft reset interval it is absorbed and the entry rejoins the
issue queue (R90). -/
def State.tableResponse (s : State) (r : TagRecord) (e : EntryNo) (ok : Bool) (data : BitVec 512) : State :=
  if s.softInterval then { s with issue := s.issue ++ [e] }
  else
    match r.kind with
    | .read => if ok then s.fetchOk e (responseValue data r.size) else s.fetchFailed e
    | .write => if ok then s.writeOk e else s.writeFailed e

/-- A SNAP response goes to the snapshot engine for its slot (R122, R139, R143); in the soft reset interval the
engine is told nothing (R147). -/
def State.snapResponse (s : State) (k : SlotNo) (ok : Bool) : State :=
  if s.softInterval then s
  else if ok then s.destinationWritten k
  else s.destinationFailed k

/-- A response arrives: a free tag's is discarded; otherwise the tag is freed and the response handed to the tag's
owner (R113, R115). -/
def State.arrive (s : State) (t : Tag) (ok : Bool) (data : BitVec 512) : State :=
  match s.tagAt t with
  | none => s
  | some r =>
    let u := s.setTag t none
    match r.owner with
    | .pass id link => u.passCompleted r id link ok data
    | .table e => u.tableResponse r e ok data
    | .snap k => u.snapResponse k ok

end Sys2Proof.Machine
end

