-- ==== Sys2Proof/Machine/Settle.lean ====
section
/-!
DEFINITION. The end of a happening (assumptions 2, 11 and 12). A happening is taken whole: after its own changes
the hold slot and the walk are retried for what those changes freed (R47, R133), the age and pressure checks are
made (R98, R100 to R102), then the drain check (R35), the FLUSH ALL completion check (R108), the soft reset
sequence's clearing and end (R183, R184), and the response arbiter's choice (R52). Then the head of the request
channel is taken, where it may be (R42), and the memory port's arbiter makes its choice and the grant, where it may
(R118); each is a happening of its own.
-/

namespace Sys2Proof.Machine

/-! ### What happened between two states (R47, R133) -/

/-- An entry went FREE. -/
def entryFreed (a b : State) : Bool :=
  (List.finRange 256).any (fun e => (a.entry e).isSome && (b.entry e).isNone)

/-- An entry joined the clean list. -/
def joinedClean (a b : State) : Bool :=
  b.clean.any (fun e => decide (e ∉ a.clean))

/-- An entry became STRANDED. -/
def becameStranded (a b : State) : Bool :=
  (List.finRange 256).any (fun e => !isStranded (a.entry e) && isStranded (b.entry e))

/-- A waiter record returned to the pool. -/
def waiterReturned (a b : State) : Bool :=
  decide (a.freeWaiters < b.freeWaiters)

/-- The counter's entry is in FETCH. -/
def State.counterInFetch (s : State) (w : WinNo) (i : Nat) : Bool :=
  match s.counterEntry w i with
  | some x => x.body.isFetch
  | none => false

/-- The entry of counter (w, i) left FETCH. -/
def leftFetch (a b : State) (w : WinNo) (i : Nat) : Bool :=
  a.counterInFetch w i && !b.counterInFetch w i

/-- An index left the snapshot exception list. -/
def exceptionLeft (a b : State) : Bool :=
  a.snap.exceptions.any (fun j => decide (j ∉ b.snap.exceptions))

/-- A slot that was `x` and is `y` has been FREE meanwhile: it is FREE now, or it has left WRITING, which a slot leaves
for FREE alone, though the walk may have taken it again since (R127, R139). -/
def slotReturned : Slot → Slot → Bool
  | .writing _ _ _, .writing _ _ _ => false
  | .writing _ _ _, _ => true
  | .requested _, y | .captured _ _, y => decide (y = .free)
  | .free, _ => false

/-- A capture slot was freed (R127), whether or not it has been taken again at the same happening. -/
def slotFreed (a b : State) : Bool :=
  (List.finRange 17).any (fun k => slotReturned (a.slot k) (b.slot k))

/-- The snapshot engine left RUNNING. -/
def leftRunning (a b : State) : Bool :=
  a.snap.state.isRunning && !b.snap.state.isRunning

/-- The request in the hold slot is retried for what happened from `a` to `b` (R47). -/
def holdDue (a b : State) : Bool :=
  match b.hold with
  | none => false
  | some h =>
    decide ((a.window h.decoded.window).state ≠ (b.window h.decoded.window).state) ||
      becameStranded a b ||
      (match h.reason with
       | .arming => false
       | .noEntry => entryFreed a b || joinedClean a b
       | .noWaiter => waiterReturned a b || leftFetch a b h.decoded.window h.decoded.index
       | .noExceptionPlace => exceptionLeft a b || leftRunning a b
       | .noCaptureSlot => slotFreed a b || leftRunning a b)

/-- The walk request that lacked something is made again for what happened from `a` to `b` (R133). -/
def walkDue (a b : State) : Bool :=
  match b.snap.state, b.snap.job with
  | .running (some .noEntry), _ => entryFreed a b || joinedClean a b
  | .running (some .noWaiter), some job => waiterReturned a b || leftFetch a b job.window job.cursor
  | _, _ => false

/-! ### Retries, age and pressure -/

/-- The retries due; where both are, their order is the free value of assumption 1 (R133). -/
def retries (a b : State) : State :=
  if holdDue a b then
    if walkDue a b then
      let t := { b with choice := b.choice + 1 }
      if Config.walkFirst b.choice then t.walkStep.retryHold else t.retryHold.walkStep
    else b.retryHold
  else if walkDue a b then b.walkStep
  else b

/-- The head of the dirty list at `a` has left the list at `b` (R98). -/
def headLeft (a b : State) : Bool :=
  match a.dirty with
  | [] => false
  | e :: _ => decide (e ∉ b.dirty)

/-- Retries, pressure, and the age check where a head of the dirty list left the list, by the happening's own changes,
by a retry or by a pressure flush (R98); again while what they changed makes a retry due. `n` bounds the rounds
(assumption 11). -/
def rounds : Nat → State → State → State
  | 0, _, b => b
  | n + 1, a, b =>
    let r := retries a b
    let c := r.pressureAct
    let d := if headLeft a b || headLeft b r || headLeft r c then c.ageCheck else c
    if holdDue b d || walkDue b d then rounds n b d else d

/-- The bound on rounds. -/
def roundLimit : Nat := 8

/-! ### The order of flushes started at one happening (R96) -/

/-- Entry `e` was flushed at the happening that led from `a` to `b`: it stood in the dirty list and has joined the
issue queue by a flush. -/
def flushedNow (a b : State) (e : EntryNo) : Bool :=
  decide (e ∈ a.dirty) && decide (e ∉ a.issue) &&
    (match b.entry e with
     | some x =>
       (match x.body with
        | .fetch _ _ .flush => true
        | .write _ _ => true
        | .fetch _ _ .resolve | .accum _ _ | .held _ _ | .strandedFetch _ _ _ | .strandedWrite _ => false)
     | none => false)

/-- Put the entries of `sorted`, in order, into the places of a queue that `which` picks. -/
def refill (which : EntryNo → Bool) : List EntryNo → List EntryNo → List EntryNo
  | [], _ => []
  | x :: xs, [] => x :: refill which xs []
  | x :: xs, y :: ys => if which x then y :: refill which xs ys else x :: refill which xs (y :: ys)

/-- Flushes started at one happening stand in the issue queue in the order in which they stood in the dirty list,
whatever triggers started them (R96). -/
def orderFlushes (a b : State) : State :=
  let sorted := a.dirty.filter (fun e => flushedNow a b e && decide (e ∈ b.issue))
  { b with issue := refill (flushedNow a b) b.issue sorted }

/-! ### The soft reset sequence (R182 to R184) -/

/-- Every downstream tag is free (R124). -/
def State.tagsFree (s : State) : Bool :=
  s.tags.toList.all Option.isNone

/-- Every response order list is empty (R184). -/
def State.listsEmpty (s : State) : Bool :=
  s.lists.toList.all (fun l => decide (l.records = []))

/-- Waiting READs and TAKEs are answered OFFLINE, in ascending entry number and list order (R93). -/
def State.answerOffline (s : State) : State :=
  (List.finRange 256).foldl (fun t e => match s.entry e with
    | some x => t.failWaiters x.waiters .offline
    | none => t) s

/-- The clearing (R183): each block under its own rule. -/
def State.softClear (s : State) : State :=
  { s.answerOffline with
    entries := Vector.replicate 256 none
    dirty := []
    clean := []
    issue := []
    latches := Vector.replicate 16 .empty
    windows := Vector.replicate 16 { state := .empty, config := none }
    snap := Snapshot.reset
    flushAllRunning := false
    flushAllDone := false
    carry := []
    alerts := []
    faults := { first := none, further := 0 }
    engine := .executing .waitDelivery }

/-- The end of the sequence (R184). -/
def State.softFinish (s : State) : State :=
  { s with
    engine := .responseReady { code := codeSoftReset, status := .ok, results := [] }
    softCount := s.softCount + 1 }

/-- The clearing, at the happening after which all 32 tags are free in the first phase (R124, R183). -/
def State.clearCheck (s : State) : State :=
  if s.engine = .executing .waitTags ∧ s.tagsFree = true then s.softClear else s

/-- The end, at the happening after which every list is empty in the second phase (R184). -/
def State.finishCheck (s : State) : State :=
  if s.engine = .executing .waitDelivery ∧ s.listsEmpty = true then s.softFinish else s

/-! ### The end of a happening -/

/-- What follows a happening's own changes, which led from `a` to `b`, at the same happening. -/
def settle (a b : State) : State :=
  let c := (rounds roundLimit a b).drainChecks.flushAllCheck
  (orderFlushes a c).clearCheck.finishCheck.chooseResponse

/-- The happening that falls at once, if any: the taking of the channel's head request, which needs no grant (R42), or
the arbiter's choice, made wherever the downstream channel is free and a claim is eligible, with its grant (R118, R120).
Where both fall, their order is the free value of assumption 21. -/
def State.nextHappening (s : State) : Option State :=
  match s.takeHead, s.chosen with
  | none, none => none
  | some t, none => some t
  | none, some _ => some s.grant
  | some _, some _ =>
    let u := { s with choice := s.choice + 1 }
    if Config.grantFirst s.choice then some u.grant else u.takeHead

/-- The takings and the grant that fall at once, each a happening of its own, with its own end (R42, R118). `n` bounds
their number: each taking shortens the channel, and a grant occupies the downstream channel. -/
def follow : Nat → State → State
  | 0, s => s
  | n + 1, s =>
    match s.nextHappening with
    | none => s
    | some t => follow n (settle s t)

/-- A happening whose own changes lead from `a` to `b`, taken whole, with the takings and the grant that fall at
once. -/
def finish (a b : State) : State :=
  let s := settle a b
  follow (s.channel.length + 1) s

end Sys2Proof.Machine
end

