-- ==== Sys2Proof/Machine/Management.lean ====
section
/-!
DEFINITION. The management port (chapter 10): what a frame captures (R172), the taking of a command (R173), each
command's checks and changes under its owner's rule, and the result layouts of 10.6.
-/

namespace Sys2Proof.Machine

/-! ### Codes of 10.6 -/

def portStateCode : PortState → Nat
  | .idle => 0
  | .executing => 1
  | .responseReady => 2

def statusCode : Status → Nat
  | .ok => 0
  | .busy => 1
  | .badArgument => 2
  | .wrongState => 3
  | .overlap => 4
  | .conflict => 5

def winStateCode : WinState → Nat
  | .empty => 0
  | .loaded => 1
  | .arming => 2
  | .active => 3
  | .draining => 4
  | .quiesced => 5
  | .fault _ => 6

/-- The resume state, coded as the state; 0xFF when absent (10.6). -/
def resumeCode : WinState → Nat
  | .fault .active => 3
  | .fault .draining => 4
  | .empty | .loaded | .arming | .active | .draining | .quiesced => 0xFF

def snapStateCode : SnapState → Nat
  | .idle => 0
  | .running _ => 1
  | .aborting _ => 2

def snapResultCode : SnapResult → Nat
  | .none => 0
  | .done => 1
  | .aborted => 2
  | .failed => 3

def alertKindCode : AlertKind → Nat
  | .level => 1
  | .wrapped => 2
  | .saturated => 3

def faultKindCode : FaultKind → Nat
  | .fetchFailed => 1
  | .writeFailed => 2
  | .snapWriteFailed => 3

def holdReasonCode : HoldReason → Nat
  | .arming => 1
  | .noEntry => 2
  | .noExceptionPlace => 3
  | .noCaptureSlot => 4
  | .noWaiter => 5

/-! ### Frames (R171, R172) -/

/-- What a fall of MSEL_N captures (R172): the header's contents, and the soft reset progress while EXECUTING
(R182, R183). -/
def State.capture (s : State) : Captured :=
  match s.engine with
  | .idle => { portState := .idle, count := s.takenCount, code := codeNop, status := .ok, results := [] }
  | .executing phase =>
    { portState := .executing
      count := s.takenCount
      code := codeSoftReset
      status := .busy
      results := match phase with
        | .waitTags => bytesLE 1 1 ++ bytesLE 1 (32 - s.freeTags)
        | .waitDelivery => bytesLE 1 2 ++ bytesLE 1 s.owed }
  | .responseReady r =>
    { portState := .responseReady, count := s.takenCount, code := r.code, status := r.status, results := r.results }

/-- The bytes of the response frame (10.6). -/
def Captured.bytes (c : Captured) : List Byte :=
  bytesLE 1 (portStateCode c.portState) ++ [c.count, c.code] ++ bytesLE 1 (statusCode c.status) ++
    bytesLE 2 c.results.length ++ c.results

/-- Byte `k` that MDO clocks out in a frame: zero after the last byte of the response frame (R171). -/
def Frame.mdo (f : Frame) (k : Nat) : Byte :=
  f.captured.bytes.getD k 0

/-- A fall of MSEL_N: a frame starts, and can carry a command only outside the hard reset (R172, R185). There is no
fall while a frame is in progress. -/
def State.startFrame (s : State) : State :=
  match s.frame with
  | some _ => s
  | none => { s with frame := some { captured := s.capture, received := [], live := !s.rstAsserted } }

/-- The rise of MSEL_N without a command (R172). -/
def State.dropFrame (s : State) : State :=
  { s with frame := none }

/-- The rise of MSEL_N that ends a frame begun while the engine was EXECUTING: nothing is taken (R172). -/
def State.busyFrame (s : State) : State :=
  match s.frame with
  | some f => if f.captured.portState = .executing then s.dropFrame else s
  | none => s

/-- The command of the frame in progress is taken: the frame began outside the hard reset, with the engine not
EXECUTING (R172, R185). -/
def State.takesCommand (s : State) : Bool :=
  match s.frame with
  | some f => f.live && decide (f.captured.portState ≠ .executing)
  | none => false

/-- What an owner's rule makes of a command: the state, the status and the results. -/
structure Reply where
  st : State
  status : Status
  results : List Byte

/-- A refused command changes nothing and has no results (R28, R174, assumption 14). -/
def refuse (s : State) (st : Status) : Reply :=
  { st := s, status := st, results := [] }

/-- A command answered OK. -/
def okay (s : State) (results : List Byte) : Reply :=
  { st := s, status := .ok, results := results }

/-- The rise of MSEL_N that ends a frame with a command: where it is taken, the held response is discarded, the
count advances, the owner's rule applies, and the response is held, all at one happening (R173). -/
def State.endFrame (s : State) (code : Byte) (run : State → Reply) : State :=
  let t := s.dropFrame
  if s.takesCommand then
    let r := run { t with takenCount := t.takenCount + 1 }
    { r.st with engine := .responseReady { code := code, status := r.status, results := r.results } }
  else t

/-- The window number of a command, if at most 15 (R28). -/
def windowArg (w : BitVec 8) : Option WinNo :=
  if h : w.toNat < 16 then some ⟨w.toNat, h⟩ else none

/-- A window command's first check (R28, R156, R159). -/
def withWindow (w : BitVec 8) (s : State) (run : WinNo → Reply) : Reply :=
  match windowArg w with
  | some n => run n
  | none => refuse s .badArgument

/-! ### Window commands (R28 to R39, R175) -/

/-- The destination region of a snapshot job (R129). -/
def State.destRegion (s : State) (b : SnapJob) : Range :=
  ⟨b.dest.toNat, b.dest.toNat + (s.config b.window).width.bytes * b.count⟩

/-- The snapshot engine is not IDLE (R129, R131). -/
def SnapState.isBusy : SnapState → Bool
  | .running _ | .aborting _ => true
  | .idle => false

/-- The engine is RUNNING or ABORTING with window `w` (R34). -/
def State.snapshotOn (s : State) (w : WinNo) : Bool :=
  s.snap.state.isBusy && (match s.snap.job with
    | some b => decide (b.window = w)
    | none => false)

/-- A range overlaps a range of a window that is not EMPTY (R30). -/
def Window.overlapsRange (x : Window) (g : Range) : Bool :=
  match x.state, x.config with
  | .empty, _ => false
  | _, some c => g.overlaps c.storageRange || g.overlaps c.aliasRange
  | _, none => false

/-- A range overlaps the destination region of a running or aborting snapshot (R30). -/
def State.overlapsDestination (s : State) (g : Range) : Bool :=
  s.snap.state.isBusy && (match s.snap.job with
    | some b => g.overlaps (s.destRegion b)
    | none => false)

/-- The overlap check of WINDOW LOAD (R30). -/
def State.loadOverlaps (s : State) (c : WinConfig) : Bool :=
  c.storageRange.overlaps c.aliasRange ||
    [c.storageRange, c.aliasRange].any (fun g =>
      s.windows.toList.any (fun x => x.overlapsRange g) || s.overlapsDestination g)

/-- The field checks of WINDOW LOAD: the configuration, where they pass (R29, step 2). -/
def LoadArgsConfig (a : LoadArgs) : Option WinConfig :=
  match Width.ofLanes a.lanes.toNat with
  | none => none
  | some l =>
    let n := a.count.toNat
    if n ≠ 0 ∧ n ≤ Config.maxCounters ∧ a.storage.toNat % l.bytes = 0 ∧ a.aliasBase.toNat % l.bytes = 0 ∧
        a.storage.toNat + n * l.bytes ≤ Config.addressEnd ∧
        a.aliasBase.toNat + 4 * (n * l.bytes) ≤ Config.addressEnd ∧ a.exponent.toNat ≤ l.bits then
      some
        { storage := a.storage
          count := n
          width := l
          aliasBase := a.aliasBase
          policy := a.policy
          exponent := a.exponent.toNat }
    else none

/-- WINDOW LOAD (R29). -/
def State.windowLoad (s : State) (a : LoadArgs) : Reply :=
  withWindow a.window s (fun w =>
    if (s.window w).state ≠ .empty then refuse s .wrongState
    else
      match LoadArgsConfig a with
      | none => refuse s .badArgument
      | some c =>
        if s.loadOverlaps c then refuse s .overlap
        else okay (s.setWindow w { state := .loaded, config := some c }) [])

/-- WINDOW ARM (R32). -/
def State.windowArm (s : State) (w : BitVec 8) : Reply :=
  withWindow w s (fun w =>
    match (s.window w).state with
    | .loaded | .quiesced => okay ((s.setWinState w .arming).armingCheck w) []
    | .empty | .arming | .active | .draining | .fault _ => refuse s .wrongState)

/-- WINDOW DRAIN (R34, R103). -/
def State.windowDrain (s : State) (w : BitVec 8) : Reply :=
  withWindow w s (fun w =>
    if (s.window w).state ≠ .active then refuse s .wrongState
    else if s.snapshotOn w then refuse s .conflict
    else okay ((s.setWinState w .draining).drainStart w) [])

/-- The latch names a counter of window `w`. -/
def Latch.names (w : WinNo) : Latch → Bool
  | .pending lw _ _ _ | .filled lw _ _ _ => decide (lw = w)
  | .empty => false

/-- WINDOW RELEASE (R31, R57). -/
def State.windowRelease (s : State) (w : BitVec 8) : Reply :=
  withWindow w s (fun w =>
    match (s.window w).state with
    | .loaded | .quiesced =>
      let t := s.setWindow w { state := .empty, config := none }
      okay { t with latches := s.latches.map (fun l => if l.names w then .empty else l) } []
    | .empty | .arming | .active | .draining | .fault _ => refuse s .wrongState)

/-- WINDOW STATUS (R39, 10.6). -/
def State.windowStatus (s : State) (w : BitVec 8) : Reply :=
  withWindow w s (fun w =>
    okay s (bytesLE 1 (winStateCode (s.window w).state) ++ bytesLE 1 (resumeCode (s.window w).state) ++
      bytesLE 2 (s.entryCount w) ++ bytesLE 2 (s.strandedCount w)))

/-! ### Snapshot commands (R129, R130, R141, R145, R176) -/

/-- A snapshot accepted: the job, and the first walk step (R130). -/
def State.snapshotBegin (s : State) (b : SnapJob) : State :=
  State.walkStep { s with snap := { s.snap with
    state := .running none
    job := some b
    exceptions := []
    lastResult := .none
    failing := none
    done := false } }

/-- SNAPSHOT START (R129). -/
def State.snapshotStart (s : State) (a : StartArgs) : Reply :=
  withWindow a.window s (fun w =>
    let c := s.config w
    let f := a.first.toNat
    let n := a.count.toNat
    let g : Range := ⟨a.dest.toNat, a.dest.toNat + c.width.bytes * n⟩
    if s.snap.state.isBusy then refuse s .busy
    else if (s.window w).state ≠ .active then refuse s .wrongState
    else if n = 0 ∨ c.count < f + n ∨ a.dest.toNat % c.width.bytes ≠ 0 ∨ Config.addressEnd < g.hi then
      refuse s .badArgument
    else if s.windows.toList.any (fun x => x.overlapsRange g) then refuse s .overlap
    else okay (s.snapshotBegin
      { window := w, first := f, count := n, dest := a.dest, mode := a.mode, cursor := f }) [])

/-- SNAPSHOT ABORT (R141, R142). -/
def State.snapshotAbort (s : State) : Reply :=
  match s.snap.state with
  | .running _ => okay (s.leaveRunning .aborted).endCheck []
  | .idle | .aborting _ => refuse s .wrongState

/-- The result of SNAPSHOT STATUS (R145, 10.6). -/
def Snapshot.statusBytes (p : Snapshot) : List Byte :=
  bytesLE 1 (snapStateCode p.state) ++ bytesLE 1 (snapResultCode p.lastResult) ++
    bytesLE 1 ((if p.job ≠ none then 1 else 0) + (if p.failing ≠ none then 2 else 0) +
      (if p.done = true then 4 else 0)) ++
    (match p.job with
     | some b => bytesLE 1 b.window.val ++ bytesLE 4 b.first ++ bytesLE 4 b.count ++ bytesLE 5 b.dest.toNat ++
         bytesLE 1 (modeCode b.mode) ++ bytesLE 4 b.cursor
     | none => bytesLE 19 0) ++
    bytesLE 1 p.exceptions.length ++ bytesLE 3 (p.failing.getD 0)

/-- SNAPSHOT STATUS clears the snapshot-done flag (R145, R146). -/
def State.snapshotStatus (s : State) : Reply :=
  okay { s with snap := { s.snap with done := false } } s.snap.statusBytes

/-! ### Fault and alert commands (R155, R156, R159, R165, R177) -/

/-- The fault record's layout (10.6). -/
def FaultRecord.bytes (r : FaultRecord) : List Byte :=
  (match r.first with
   | some f => bytesLE 1 (faultKindCode f.kind) ++ bytesLE 1 f.window.val ++ bytesLE 3 f.index
   | none => bytesLE 5 0) ++ bytesLE 1 r.further

/-- FAULT READ empties the record (R155). -/
def State.faultRead (s : State) : Reply :=
  okay { s with faults := { first := none, further := 0 } } s.faults.bytes

def WinState.isFault : WinState → Bool
  | .fault _ => true
  | .empty | .loaded | .arming | .active | .draining | .quiesced => false

/-- RETRY (R156). -/
def State.retryWindow (s : State) (w : BitVec 8) : Reply :=
  withWindow w s (fun w =>
    if (s.window w).state.isFault then okay (s.reenterAll w) (bytesLE 2 (s.strandedOf w).length)
    else refuse s .wrongState)

/-- DISCARD (R159). -/
def State.discardWindow (s : State) (w : BitVec 8) : Reply :=
  withWindow w s (fun w =>
    if !(s.window w).state.isFault then refuse s .wrongState
    else if s.underRetry w then refuse s .conflict
    else okay (s.discardAll w) (bytesLE 2 (s.strandedOf w).length ++ bytesLE 1 (s.keptRecords w)))

/-- The result of ALERT POP, before and after the removal (R165, 10.6). -/
def alertPopBytes (head : Option Alert) (left : Nat) (seq : BitVec 16) : List Byte :=
  (match head with
   | some a => bytesLE 1 1 ++ bytesLE 1 (alertKindCode a.kind) ++ bytesLE 1 a.window.val ++
       bytesLE 2 a.seq.toNat ++ bytesLE 3 a.index
   | none => bytesLE 8 0) ++ bytesLE 1 left ++ bytesLE 2 seq.toNat

/-- ALERT POP removes and returns the head record (R165). -/
def State.alertPop (s : State) : Reply :=
  okay { s with alerts := s.alerts.drop 1 }
    (alertPopBytes s.alerts.head? (s.alerts.drop 1).length s.alertSeq)

/-! ### FLUSH ALL and the parameters (R106, R178, R179) -/

/-- FLUSH ALL (R106). -/
def State.flushAllCommand (s : State) : Reply :=
  if s.flushAllRunning then refuse s .conflict else okay s.flushAllStart []

/-- PARAM SET of the low mark (R95, R179). -/
def State.setLowMark (s : State) (v : BitVec 32) : Reply :=
  if v.toNat ≤ Config.lowMarkMax then okay { s with lowMark := v.toNat } [] else refuse s .badArgument

/-- PARAM SET of the flush age (R95, R98). -/
def State.setFlushAge (s : State) (v : BitVec 32) : Reply :=
  if v.toNat ≤ Config.flushAgeMax then okay { s with flushAge := v.toNat } [] else refuse s .badArgument

/-- PARAM SET of the tick prescaler: a new value restarts the clock count, the present value changes nothing
(R94, R179). -/
def State.setPrescaler (s : State) (v : BitVec 32) : Reply :=
  if 1 ≤ v.toNat ∧ v.toNat ≤ Config.prescalerMax then
    (if v.toNat = s.prescaler then okay s [] else okay { s with prescaler := v.toNat, clock := 0 } [])
  else refuse s .badArgument

/-- PARAM SET of the interrupt enables (R166, R179). -/
def State.setEnables (s : State) (v : BitVec 32) : Reply :=
  if v.toNat ≤ Config.enablesMax then okay { s with enables := BitVec.ofNat 4 v.toNat } [] else refuse s .badArgument

/-- The value of a parameter (R179). -/
def State.param (s : State) : Param → Nat
  | .lowMark => s.lowMark
  | .flushAge => s.flushAge
  | .prescaler => s.prescaler
  | .enables => s.enables.toNat

/-- PARAM GET (R179). -/
def State.paramGet (s : State) (p : Param) : Reply :=
  okay s (bytesLE 4 (s.param p))

/-! ### Status commands (R180, R181) -/

/-- The flags byte of MGMT STATUS (10.6). -/
def State.flagsByte (s : State) : Nat :=
  s.sources + (if s.irqLow = true then 16 else 0) + (if s.flushAllRunning = true then 32 else 0)

/-- The result of MGMT STATUS (R180, 10.6). -/
def State.mgmtBytes (s : State) : List Byte :=
  bytesLE 2 s.freeCount ++ bytesLE 2 s.clean.length ++ bytesLE 2 s.dirty.length ++ bytesLE 2 s.issue.length ++
    bytesLE 1 (match s.hold with
      | some h => holdReasonCode h.reason
      | none => 0) ++
    bytesLE 1 s.freeTags ++ bytesLE 1 s.alerts.length ++ bytesLE 1 s.flagsByte ++ bytesLE 1 s.softCount.toNat

/-- MGMT STATUS reports, and clears a set flush-all-done flag (R108, R180). -/
def State.mgmtStatus (s : State) : Reply :=
  okay { s with flushAllDone := false } s.mgmtBytes

def entryStateCode : Body → Nat
  | .accum _ _ => 1
  | .fetch _ _ _ => 2
  | .held _ _ => 3
  | .write _ _ => 4
  | .strandedFetch _ _ _ | .strandedWrite _ => 5

/-- The marks byte of ENTRY READ (10.6). -/
def Entry.marks (x : Entry) : Nat :=
  (match x.body with
   | .held _ d => if d then 1 else 0
   | .write _ r => if r then 2 else 0
   | .accum _ m | .fetch _ m _ | .strandedFetch _ m _ => if m then 4 else 0
   | .strandedWrite _ => 0) +
    (if x.flushAll = true then 8 else 0) + (if x.captureRequested = true then 16 else 0) +
    (if x.retry = true then 32 else 0)

/-- The fetch cause (low half) and the failed-op kind (high half) of ENTRY READ (10.6). -/
def Entry.causes (x : Entry) : Nat :=
  (match x.body with
   | .fetch _ _ q | .strandedFetch _ _ q =>
     (match q with
      | .resolve => 1
      | .flush => 2)
   | .accum _ _ | .held _ _ | .write _ _ | .strandedWrite _ => 0) +
    16 * (match x.failedOp with
      | some k => faultKindCode k
      | none => 0)

/-- D or V, and the presence weight of the one that is present (10.6). -/
def Body.shown : Body → Nat × Nat
  | .accum d _ | .fetch d _ _ | .strandedFetch d _ _ => (d, 1)
  | .held v _ | .write v _ | .strandedWrite v => (v, 2)

/-- The tag byte of ENTRY READ: 0xFF when no tag is held (10.6). -/
def tagByte : Option Tag → Nat
  | some t => t.val
  | none => 0xFF

/-- The result of ENTRY READ for entry `e` (R181, 10.6). -/
def State.entryBytes (s : State) (e : EntryNo) : List Byte :=
  match s.entry e with
  | some x =>
    bytesLE 1 e.val ++ bytesLE 1 (entryStateCode x.body) ++ bytesLE 1 x.marks ++ bytesLE 1 x.causes ++
      bytesLE 1 x.window.val ++ bytesLE 3 x.index ++ bytesLE 16 x.body.shown.1 ++ bytesLE 1 x.waiters.length ++
      bytesLE 1 (tagByte (s.tagOf e)) ++ bytesLE 4 (x.dirtySince.getD 0).toNat ++ bytesLE 4 x.lastUse.toNat ++
      bytesLE 1 (x.body.shown.2 + (if x.dirtySince ≠ none then 4 else 0) + 8)
  | none => bytesLE 1 e.val ++ bytesLE 1 0 ++ bytesLE 23 0 ++ bytesLE 1 (tagByte (s.tagOf e)) ++ bytesLE 9 0

/-- The result of ENTRY READ where the lookup finds no entry: the state code NONE (R181, assumption 15). -/
def noEntryBytes : List Byte :=
  bytesLE 1 0 ++ bytesLE 1 7 ++ bytesLE 23 0 ++ bytesLE 1 (tagByte none) ++ bytesLE 9 0

/-- ENTRY READ (R181). -/
def State.entryReadReply (s : State) : EntryRef → Reply
  | .byNumber e => okay s (s.entryBytes ⟨e.toNat, e.isLt⟩)
  | .byCounter w i =>
    withWindow w s (fun w =>
      match s.lookup w i.toNat with
      | some e => okay s (s.entryBytes e)
      | none => okay s noEntryBytes)

/-! ### Resets (R182, R185) -/

/-- SOFT RESET is taken: a held request is answered OFFLINE and the engine waits for the tags; the blocks stop by
State.softInterval and State.softRunning (R59, R182). -/
def State.softBegin (s : State) : State :=
  let t := match s.hold with
    | some h => { s.answerFailure h.request.id h.link .offline with hold := none }
    | none => s
  { t with engine := .executing .waitTags }

/-- The rise of MSEL_N that ends a frame with SOFT RESET (R173, R182). -/
def State.softResetFrame (s : State) : State :=
  let t := s.dropFrame
  if s.takesCommand then State.softBegin { t with takenCount := t.takenCount + 1 } else t

/-- A hard reset (R185 and the hard-reset rule of each block): every block takes its reset value; the masters'
requests still on the channel, the queue of commands and the count of assumption 1 are outside the part. -/
def State.hardReset (s : State) : State :=
  { State.reset with
    pending := s.pending
    channel := s.channel
    choice := s.choice
    rstAsserted := true }

end Sys2Proof.Machine
end

