-- ==== Sys2Proof/Machine/ExecFaults.lean ====
section
/-!
DEFINITION. The commands of the fault record, the stranded entries and the alert queue (chapters 8 and 9).
-/

namespace Sys2Proof.Machine

/-- FAULT_READ (R155). -/
def execFaultRead (s : State) : Host.Outcome State Fault Refusal :=
  .next (s.endFrame codeFaultRead State.faultRead)

/-- RETRY (R156). -/
def execRetry (w : BitVec 8) (s : State) : Host.Outcome State Fault Refusal :=
  .next (finish s (s.endFrame codeRetry (fun t => t.retryWindow w)))

/-- DISCARD (R159). -/
def execDiscard (w : BitVec 8) (s : State) : Host.Outcome State Fault Refusal :=
  .next (finish s (s.endFrame codeDiscard (fun t => t.discardWindow w)))

/-- ALERT_POP (R165). -/
def execAlertPop (s : State) : Host.Outcome State Fault Refusal :=
  .next (s.endFrame codeAlertPop State.alertPop)

end Sys2Proof.Machine
end

