-- ==== Sys2Proof/Machine/ExecIngress.lean ====
section
/-!
DEFINITION. The commands of the ingress unit (chapter 3): REQUEST_TAKEN, HOLD_SLOT_RETRY, RESPONSE_DELIVERY.
-/

namespace Sys2Proof.Machine

/-- REQUEST_TAKEN (R42): the masters present `r` behind the requests that wait; the head is taken as soon as it may
be (assumption 5). -/
def execRequestTaken (r : Request) (s : State) : Host.Outcome State Fault Refusal :=
  .next (finish s { s with channel := s.channel ++ [r] })

/-- HOLD_SLOT_RETRY (R47). -/
def execHoldSlotRetry (s : State) : Host.Outcome State Fault Refusal :=
  .next (finish s s.retryHold)

/-- RESPONSE_DELIVERY (R51). -/
def execResponseDelivery (s : State) : Host.Outcome State Fault Refusal :=
  .next (finish s s.deliver)

end Sys2Proof.Machine
end

