-- ==== Sys2Proof/Machine/ExecManagement.lean ====
section
/-!
DEFINITION. The commands of the management port (chapter 10): frames, the status commands and the resets.
-/

namespace Sys2Proof.Machine

/-- FRAME_START (R172). -/
def execFrameStart (s : State) : Host.Outcome State Fault Refusal :=
  .next s.startFrame

/-- FRAME_WITHOUT_COMMAND (R172): whatever the bytes are. -/
def execFrameWithoutCommand (_bytes : List Byte) (s : State) : Host.Outcome State Fault Refusal :=
  .next s.dropFrame

/-- NOP (R172): the frame carries no command. -/
def execNop (s : State) : Host.Outcome State Fault Refusal :=
  .next s.dropFrame

/-- FRAME_BUSY (R172): the command of a frame begun while EXECUTING is not taken. -/
def execFrameBusy (_bytes : List Byte) (s : State) : Host.Outcome State Fault Refusal :=
  .next s.busyFrame

/-- UNASSIGNED_COMMAND (R174). -/
def execUnassignedCommand (bytes : List Byte) (s : State) : Host.Outcome State Fault Refusal :=
  .next (s.endFrame (bytes.headD codeNop) (fun t => refuse t .badArgument))

/-- MGMT_STATUS (R180). -/
def execMgmtStatus (s : State) : Host.Outcome State Fault Refusal :=
  .next (s.endFrame codeMgmtStatus State.mgmtStatus)

/-- ENTRY_READ (R181). -/
def execEntryRead (r : EntryRef) (s : State) : Host.Outcome State Fault Refusal :=
  .next (s.endFrame codeEntryRead (fun t => t.entryReadReply r))

/-- SOFT_RESET (R182). -/
def execSoftReset (s : State) : Host.Outcome State Fault Refusal :=
  .next (finish s s.softResetFrame)

/-- SOFT_RESET_CLEARING (R183). -/
def execSoftResetClearing (s : State) : Host.Outcome State Fault Refusal :=
  .next (finish s s.clearCheck)

/-- SOFT_RESET_END (R184). -/
def execSoftResetEnd (s : State) : Host.Outcome State Fault Refusal :=
  .next (finish s s.finishCheck)

/-- HARD_RESET (R185). -/
def execHardReset (s : State) : Host.Outcome State Fault Refusal :=
  .next s.hardReset

/-- RST_N_RELEASED (R185): operation begins. -/
def execRstNReleased (s : State) : Host.Outcome State Fault Refusal :=
  .next (finish s { s with rstAsserted := false })

end Sys2Proof.Machine
end

