-- ==== Sys2Proof/Machine/ExecPort.lean ====
section
/-!
DEFINITION. The commands of the memory port (chapter 6): the grant, the acceptance of the presented request, and
the ten arrivals of a downstream response. What a response does follows from its tag's record (R113, R122): the
row that names it says which (assumption 4).
-/

namespace Sys2Proof.Machine

/-- DOWNSTREAM_GRANT (R118 to R120). -/
def execDownstreamGrant (s : State) : Host.Outcome State Fault Refusal :=
  .next (finish s s.grant)

/-- DOWNSTREAM_REQUEST_ACCEPTED (R120): the channel is free again. -/
def execDownstreamRequestAccepted (s : State) : Host.Outcome State Fault Refusal :=
  .next (finish s { s with downReq := none })

/-- PASS_THROUGH_COMPLETION (R121). -/
def execPassThroughCompletion (t : Tag) (ok : Bool) (data : BitVec 512) (s : State) :
    Host.Outcome State Fault Refusal :=
  .next (finish s (s.arrive t ok data))

/-- FETCH_RETURN (R85). -/
def execFetchReturn (t : Tag) (data : BitVec 512) (s : State) : Host.Outcome State Fault Refusal :=
  .next (finish s (s.arrive t true data))

/-- WRITE_BACK_RETURN (R89). -/
def execWriteBackReturn (t : Tag) (s : State) : Host.Outcome State Fault Refusal :=
  .next (finish s (s.arrive t true 0))

/-- FETCH_ERROR (R149). -/
def execFetchError (t : Tag) (s : State) : Host.Outcome State Fault Refusal :=
  .next (finish s (s.arrive t false 0))

/-- WRITE_BACK_ERROR (R150). -/
def execWriteBackError (t : Tag) (s : State) : Host.Outcome State Fault Refusal :=
  .next (finish s (s.arrive t false 0))

/-- DESTINATION_WRITE_RETURN (R139). -/
def execDestinationWriteReturn (t : Tag) (s : State) : Host.Outcome State Fault Refusal :=
  .next (finish s (s.arrive t true 0))

/-- DESTINATION_WRITE_ERROR (R143). -/
def execDestinationWriteError (t : Tag) (s : State) : Host.Outcome State Fault Refusal :=
  .next (finish s (s.arrive t false 0))

/-- TABLE_RESPONSE_ABSORBED (R90). -/
def execTableResponseAbsorbed (t : Tag) (ok : Bool) (data : BitVec 512) (s : State) :
    Host.Outcome State Fault Refusal :=
  .next (finish s (s.arrive t ok data))

/-- SNAP_RESPONSE_ABSORBED (R147). -/
def execSnapResponseAbsorbed (t : Tag) (ok : Bool) (s : State) : Host.Outcome State Fault Refusal :=
  .next (finish s (s.arrive t ok 0))

/-- ORPHAN_RESPONSE (R113). -/
def execOrphanResponse (t : Tag) (ok : Bool) (data : BitVec 512) (s : State) : Host.Outcome State Fault Refusal :=
  .next (finish s (s.arrive t ok data))

end Sys2Proof.Machine
end

