-- ==== Sys2Proof/Machine/ExecSnapshots.lean ====
section
/-!
DEFINITION. The commands of the snapshot engine (chapter 7): the three management commands, and the walk's retry,
the completion and the end that the engine makes itself (assumption 2).
-/

namespace Sys2Proof.Machine

/-- SNAPSHOT_START (R129). -/
def execSnapshotStart (a : StartArgs) (s : State) : Host.Outcome State Fault Refusal :=
  .next (finish s (s.endFrame codeSnapshotStart (fun t => t.snapshotStart a)))

/-- SNAPSHOT_ABORT (R141). -/
def execSnapshotAbort (s : State) : Host.Outcome State Fault Refusal :=
  .next (finish s (s.endFrame codeSnapshotAbort State.snapshotAbort))

/-- SNAPSHOT_STATUS (R145). -/
def execSnapshotStatus (s : State) : Host.Outcome State Fault Refusal :=
  .next (s.endFrame codeSnapshotStatus State.snapshotStatus)

/-- SNAPSHOT_COMPLETE (R140). -/
def execSnapshotComplete (s : State) : Host.Outcome State Fault Refusal :=
  .next (finish s s.completionCheck)

/-- SNAPSHOT_END (R142). -/
def execSnapshotEnd (s : State) : Host.Outcome State Fault Refusal :=
  .next (finish s s.endCheck)

/-- WALK_RETRY (R133). -/
def execWalkRetry (s : State) : Host.Outcome State Fault Refusal :=
  .next (finish s s.retryWalk)

end Sys2Proof.Machine
end

