-- ==== Sys2Proof/Machine/ExecWindows.lean ====
section
/-!
DEFINITION. The commands of the window table (chapter 2): the five window commands, each the rise of MSEL_N that
ends its frame, and the two changes of state the table makes itself.
-/

namespace Sys2Proof.Machine

/-- WINDOW_LOAD (R29). -/
def execWindowLoad (a : LoadArgs) (s : State) : Host.Outcome State Fault Refusal :=
  .next (finish s (s.endFrame codeWindowLoad (fun t => t.windowLoad a)))

/-- WINDOW_ARM (R32). -/
def execWindowArm (w : BitVec 8) (s : State) : Host.Outcome State Fault Refusal :=
  .next (finish s (s.endFrame codeWindowArm (fun t => t.windowArm w)))

/-- WINDOW_DRAIN (R34). -/
def execWindowDrain (w : BitVec 8) (s : State) : Host.Outcome State Fault Refusal :=
  .next (finish s (s.endFrame codeWindowDrain (fun t => t.windowDrain w)))

/-- WINDOW_RELEASE (R31). -/
def execWindowRelease (w : BitVec 8) (s : State) : Host.Outcome State Fault Refusal :=
  .next (finish s (s.endFrame codeWindowRelease (fun t => t.windowRelease w)))

/-- WINDOW_STATUS (R39). -/
def execWindowStatus (w : BitVec 8) (s : State) : Host.Outcome State Fault Refusal :=
  .next (s.endFrame codeWindowStatus (fun t => t.windowStatus w))

/-- WINDOW_BECOMES_ACTIVE (R33): the arming check of window `w` (assumption 2). -/
def execWindowBecomesActive (w : WinNo) (s : State) : Host.Outcome State Fault Refusal :=
  .next (finish s (s.armingCheck w))

/-- WINDOW_QUIESCE (R35): the drain check of window `w` (assumption 2). -/
def execWindowQuiesce (w : WinNo) (s : State) : Host.Outcome State Fault Refusal :=
  .next (finish s (s.drainCheck w))

end Sys2Proof.Machine
end

