-- ==== Sys2Proof/Machine/ExecWriteBack.lean ====
section
/-!
DEFINITION. The commands of the write-back engine (chapter 5) and the parameters it and the interrupt line read
(R95, R166, R178, R179).
-/

namespace Sys2Proof.Machine

/-- TICK_ADVANCE (R94): the clock's P-th edge since the last advance; the clock counts on at the empty queue
(assumption 8). -/
def execTickAdvance (s : State) : Host.Outcome State Fault Refusal :=
  .next (if s.rstAsserted then s else finish s s.tickOnce)

/-- FLUSH_ALL (R106). -/
def execFlushAll (s : State) : Host.Outcome State Fault Refusal :=
  .next (finish s (s.endFrame codeFlushAll State.flushAllCommand))

/-- FLUSH_ALL_COMPLETE (R108). -/
def execFlushAllComplete (s : State) : Host.Outcome State Fault Refusal :=
  .next (finish s s.flushAllCheck)

/-- PARAM_SET_LOW_MARK (R95): the new mark is in effect at once, and may put the table under pressure (R100). -/
def execParamSetLowMark (v : BitVec 32) (s : State) : Host.Outcome State Fault Refusal :=
  .next (finish s (s.endFrame codeParamSet (fun t => t.setLowMark v)))

/-- PARAM_SET_FLUSH_AGE (R98). -/
def execParamSetFlushAge (v : BitVec 32) (s : State) : Host.Outcome State Fault Refusal :=
  .next (s.endFrame codeParamSet (fun t => t.setFlushAge v))

/-- PARAM_SET_PRESCALER (R94). -/
def execParamSetPrescaler (v : BitVec 32) (s : State) : Host.Outcome State Fault Refusal :=
  .next (s.endFrame codeParamSet (fun t => t.setPrescaler v))

/-- PARAM_SET_ENABLES (R166). -/
def execParamSetEnables (v : BitVec 32) (s : State) : Host.Outcome State Fault Refusal :=
  .next (s.endFrame codeParamSet (fun t => t.setEnables v))

/-- PARAM_GET (R179). -/
def execParamGet (p : Param) (s : State) : Host.Outcome State Fault Refusal :=
  .next (s.endFrame codeParamGet (fun t => t.paramGet p))

end Sys2Proof.Machine
end

