-- ==== Sys2Proof/Machine/Dispatch.lean ====
section
/-!
DEFINITION. One arm per command: the meaning it calls.
-/

namespace Sys2Proof.Machine

def exec (i : Instr) (s : State) : Host.Outcome State Fault Refusal :=
  match i with
  | .hardReset => Sys2Proof.Machine.execHardReset s
  | .requestTaken r => Sys2Proof.Machine.execRequestTaken r s
  | .holdSlotRetry => Sys2Proof.Machine.execHoldSlotRetry s
  | .responseDelivery => Sys2Proof.Machine.execResponseDelivery s
  | .downstreamGrant => Sys2Proof.Machine.execDownstreamGrant s
  | .downstreamRequestAccepted => Sys2Proof.Machine.execDownstreamRequestAccepted s
  | .passThroughCompletion t ok data => Sys2Proof.Machine.execPassThroughCompletion t ok data s
  | .windowBecomesActive w => Sys2Proof.Machine.execWindowBecomesActive w s
  | .fetchReturn t data => Sys2Proof.Machine.execFetchReturn t data s
  | .writeBackReturn t => Sys2Proof.Machine.execWriteBackReturn t s
  | .fetchError t => Sys2Proof.Machine.execFetchError t s
  | .writeBackError t => Sys2Proof.Machine.execWriteBackError t s
  | .destinationWriteReturn t => Sys2Proof.Machine.execDestinationWriteReturn t s
  | .destinationWriteError t => Sys2Proof.Machine.execDestinationWriteError t s
  | .tableResponseAbsorbed t ok data => Sys2Proof.Machine.execTableResponseAbsorbed t ok data s
  | .snapResponseAbsorbed t ok => Sys2Proof.Machine.execSnapResponseAbsorbed t ok s
  | .orphanResponse t ok data => Sys2Proof.Machine.execOrphanResponse t ok data s
  | .tickAdvance => Sys2Proof.Machine.execTickAdvance s
  | .frameStart => Sys2Proof.Machine.execFrameStart s
  | .frameWithoutCommand bytes => Sys2Proof.Machine.execFrameWithoutCommand bytes s
  | .nop => Sys2Proof.Machine.execNop s
  | .frameBusy bytes => Sys2Proof.Machine.execFrameBusy bytes s
  | .unassignedCommand bytes => Sys2Proof.Machine.execUnassignedCommand bytes s
  | .windowLoad a => Sys2Proof.Machine.execWindowLoad a s
  | .windowArm w => Sys2Proof.Machine.execWindowArm w s
  | .windowDrain w => Sys2Proof.Machine.execWindowDrain w s
  | .windowRelease w => Sys2Proof.Machine.execWindowRelease w s
  | .windowStatus w => Sys2Proof.Machine.execWindowStatus w s
  | .windowQuiesce w => Sys2Proof.Machine.execWindowQuiesce w s
  | .snapshotStart a => Sys2Proof.Machine.execSnapshotStart a s
  | .snapshotAbort => Sys2Proof.Machine.execSnapshotAbort s
  | .snapshotStatus => Sys2Proof.Machine.execSnapshotStatus s
  | .snapshotComplete => Sys2Proof.Machine.execSnapshotComplete s
  | .snapshotEnd => Sys2Proof.Machine.execSnapshotEnd s
  | .walkRetry => Sys2Proof.Machine.execWalkRetry s
  | .faultRead => Sys2Proof.Machine.execFaultRead s
  | .retry w => Sys2Proof.Machine.execRetry w s
  | .discard w => Sys2Proof.Machine.execDiscard w s
  | .alertPop => Sys2Proof.Machine.execAlertPop s
  | .flushAll => Sys2Proof.Machine.execFlushAll s
  | .flushAllComplete => Sys2Proof.Machine.execFlushAllComplete s
  | .paramSetLowMark v => Sys2Proof.Machine.execParamSetLowMark v s
  | .paramSetFlushAge v => Sys2Proof.Machine.execParamSetFlushAge v s
  | .paramSetPrescaler v => Sys2Proof.Machine.execParamSetPrescaler v s
  | .paramSetEnables v => Sys2Proof.Machine.execParamSetEnables v s
  | .paramGet p => Sys2Proof.Machine.execParamGet p s
  | .mgmtStatus => Sys2Proof.Machine.execMgmtStatus s
  | .entryRead r => Sys2Proof.Machine.execEntryRead r s
  | .softReset => Sys2Proof.Machine.execSoftReset s
  | .softResetClearing => Sys2Proof.Machine.execSoftResetClearing s
  | .softResetEnd => Sys2Proof.Machine.execSoftResetEnd s
  | .rstNReleased => Sys2Proof.Machine.execRstNReleased s

end Sys2Proof.Machine
end

