-- ==== Sys2Proof/Machine/Step.lean ====
section
/-!
DEFINITION. The step: the command at the front of the queue, run on the state with the queue's rest; with no
command waiting, one cycle of the core clock (R94, assumption 8).
-/

namespace Sys2Proof.Machine

/-- One cycle of the core clock: every P cycles the tick count advances (R94). The clock counts only with RST_N
released (assumption 6). -/
def State.clockCycle (s : State) : State :=
  if s.rstAsserted then s
  else if s.clock + 1 < s.prescaler then { s with clock := s.clock + 1 }
  else finish s s.tickOnce

/-- One step of the part. -/
def step (s : State) : Host.Outcome State Fault Refusal :=
  match s.pending with
  | [] => .next s.clockCycle
  | i :: rest => exec i { s with pending := rest }

/-- The state with the command that a word of the opcode table spells put at the front of the queue; the table's
rows have no bits, so no word spells one. -/
def State.withFetchWord (s : State) (nbits w : Nat) : State :=
  match Sys2Proof.decodeTableWord nbits w with
  | some i => { s with pending := i :: s.pending }
  | none => s

end Sys2Proof.Machine
end

