-- ==== Sys2Proof/Safety.lean ====
section
/-!
DEFINITION. What a safe run of the part keeps, and the terms the statements are written in: the coherent value of a
counter (R2), the invariants of the parameters, windows, tags and queues, the order of responses, the port's part of
a command, and the field checks of WINDOW LOAD and SNAPSHOT START as the rules word them.
-/

namespace Sys2Proof.Machine

/-! ### The coherent value (R2) -/

/-- A waiter's effect on the value, at its place in acceptance order; a capture leaves it under COPY and clears it
under COPY_CLEAR (R3). -/
def waiterValue (c : WinConfig) (clear : Bool) (v : Nat) : Waiter → Nat
  | .op o _ _ => applyValue c o v
  | .capture _ => if clear then 0 else v

/-- The coherent value an entry gives its counter, over the memory value `m` (R2). -/
def Entry.coherent (c : WinConfig) (clear : Bool) (x : Entry) (m : Nat) : Nat :=
  match x.body with
  | .accum d _ => runValue c d m
  | .fetch d _ _ | .strandedFetch d _ _ => x.waiters.foldl (waiterValue c clear) (runValue c d m)
  | .held v _ | .write v _ | .strandedWrite v => v

/-- The coherent value of counter (w, i), over the memory values `mem` (R2). -/
def State.coherent (s : State) (mem : WinNo → Nat → Nat) (w : WinNo) (i : Nat) : Nat :=
  match s.counterEntry w i with
  | some x => x.coherent (s.config w) s.clearing (mem w i)
  | none => mem w i

/-- No two entries name one counter (R62). -/
def State.oneEntryEach (s : State) : Prop :=
  ∀ e f x y, s.entry e = some x → s.entry f = some y → x.window = y.window → x.index = y.index → e = f

/-- Clean entries hold the memory value, and the clean list holds clean entries (R61, R71). -/
def State.cleanAgrees (s : State) (mem : WinNo → Nat → Nat) : Prop :=
  (∀ e x v, s.entry e = some x → x.body = .held v false → v = mem x.window x.index) ∧
    ∀ e ∈ s.clean, ∃ x v, s.entry e = some x ∧ x.body = .held v false

/-- An entry in ACCUM has no waiters (R68). -/
def State.accumHasNoWaiters (s : State) : Prop :=
  ∀ e x d m, s.entry e = some x → x.body = .accum d m → x.waiters = []

/-- Memory values fit their counters (1.6). -/
def State.memFits (s : State) (mem : WinNo → Nat → Nat) : Prop :=
  ∀ w i, mem w i < (s.config w).width.modulus

/-! ### Invariants -/

/-- The parameters and the clock count stay in range (R94, R95). -/
def State.paramsInRange (s : State) : Prop :=
  s.lowMark ≤ 128 ∧ s.flushAge ≤ 65535 ∧ s.flushAgeInEffect ≤ 65535 ∧ 1 ≤ s.prescaler ∧ s.prescaler ≤ 65536 ∧
    s.clock < s.prescaler

/-- Two ranges have a byte address in common. -/
def Range.shares (a b : Range) : Prop :=
  ∃ x, a.lo ≤ x ∧ x < a.hi ∧ b.lo ≤ x ∧ x < b.hi

/-- The ranges of a configuration (R4). -/
def WinConfig.ranges (c : WinConfig) : List Range :=
  [c.storageRange, c.aliasRange]

/-- A configuration is present outside EMPTY alone (R21), no window's storage range shares a byte with its alias
range, and no two windows' ranges share one (R30). -/
def State.windowsDisjoint (s : State) : Prop :=
  (∀ w, (s.window w).state = .empty ↔ (s.window w).config = none) ∧
    (∀ w c, (s.window w).config = some c → ¬ c.storageRange.shares c.aliasRange) ∧
      ∀ v w c d, v ≠ w → (s.window v).config = some c → (s.window w).config = some d →
        ∀ g ∈ c.ranges, ∀ h ∈ d.ranges, ¬ g.shares h

/-- The free tags cover the unused reservations of the update table and of the snapshot engine (R116). -/
def State.reservesCovered (s : State) : Prop :=
  s.unusedReserve .table + s.unusedReserve .snap ≤ s.freeTags

/-- Record keys lie below the number the next record gets (assumption 16). -/
def State.keysFresh (s : State) : Prop :=
  ∀ id, ∀ r ∈ (s.list id).records, r.key < (s.list id).nextKey

/-- The bounded lists and counts stay within their bounds (R49, R128, R154, R164). -/
def State.withinBounds (s : State) : Prop :=
  s.keysFresh ∧ (∀ id, (s.list id).records.length ≤ 8) ∧ s.snap.exceptions.length ≤ 16 ∧ s.alerts.length ≤ 32 ∧
    s.faults.further ≤ 255

/-- What R62 and R67 to R72 say of the table at once. No two entries name one counter; waiters stand on entries in FETCH
or STRANDED after a fetch alone, 64 at most; the dirty list holds the entries in ACCUM and the dirty ones in HELD, the
clean list the clean ones in HELD, the issue queue those in FETCH and WRITE that hold no tag, each once; and a tag of the
table belongs to the transaction its entry's state calls for, one tag an entry. -/
def State.tableConsistent (s : State) : Prop :=
  s.oneEntryEach ∧
    (∀ e x, s.entry e = some x → x.waiters ≠ [] →
      ∃ d m q, x.body = .fetch d m q ∨ x.body = .strandedFetch d m q) ∧
    (s.entries.toList.map waitersOf).sum ≤ 64 ∧
    (s.dirty.Nodup ∧ ∀ e, e ∈ s.dirty ↔
      ∃ x, s.entry e = some x ∧ ((∃ d m, x.body = .accum d m) ∨ ∃ v, x.body = .held v true)) ∧
    (s.clean.Nodup ∧ ∀ e, e ∈ s.clean ↔ ∃ x v, s.entry e = some x ∧ x.body = .held v false) ∧
    (s.issue.Nodup ∧ ∀ e, e ∈ s.issue ↔
      (∃ x, s.entry e = some x ∧ ((∃ d m q, x.body = .fetch d m q) ∨ ∃ v r, x.body = .write v r)) ∧
        ∀ g r, s.tagAt g = some r → r.owner ≠ .table e) ∧
    (∀ g r e, s.tagAt g = some r → r.owner = .table e → ∃ x, s.entry e = some x ∧
      ((r.kind = .read ∧ ∃ d m q, x.body = .fetch d m q) ∨ (r.kind = .write ∧ ∃ v b, x.body = .write v b))) ∧
    ∀ g h q r e, s.tagAt g = some q → s.tagAt h = some r → q.owner = .table e → r.owner = .table e → g = h

/-- The OK response of a table transaction agrees with the memory values: a fetch returns its counter's, and a
write-back that no update has overtaken has left the entry's value there (R1, R88). -/
def State.responseAgrees (s : State) (mem : WinNo → Nat → Nat) (g : Tag) (data : BitVec 512) : Prop :=
  ∀ r e x, s.tagAt g = some r → r.owner = .table e → s.entry e = some x →
    (r.kind = .read →
      data.toNat % 2 ^ (8 * r.size) % (s.config x.window).width.modulus = mem x.window x.index) ∧
    (r.kind = .write → ∀ v, x.body = .write v false → v = mem x.window x.index)

/-- The downstream response that a command brings: its tag, whether it is OK, and its data (R113, assumption 4). -/
def responseOf : Instr → Option (Tag × Bool × BitVec 512)
  | .passThroughCompletion g ok d | .tableResponseAbsorbed g ok d | .orphanResponse g ok d => some (g, ok, d)
  | .snapResponseAbsorbed g ok => some (g, ok, 0)
  | .fetchReturn g d => some (g, true, d)
  | .writeBackReturn g | .destinationWriteReturn g => some (g, true, 0)
  | .fetchError g | .writeBackError g | .destinationWriteError g => some (g, false, 0)
  | .hardReset | .requestTaken _ | .holdSlotRetry | .responseDelivery | .downstreamGrant
  | .downstreamRequestAccepted | .windowBecomesActive _ | .tickAdvance | .frameStart | .frameWithoutCommand _ | .nop
  | .frameBusy _ | .unassignedCommand _ | .windowLoad _ | .windowArm _ | .windowDrain _ | .windowRelease _
  | .windowStatus _ | .windowQuiesce _ | .snapshotStart _ | .snapshotAbort | .snapshotStatus | .snapshotComplete
  | .snapshotEnd | .walkRetry | .faultRead | .retry _ | .discard _ | .alertPop | .flushAll | .flushAllComplete
  | .paramSetLowMark _ | .paramSetFlushAge _ | .paramSetPrescaler _ | .paramSetEnables _ | .paramGet _ | .mgmtStatus
  | .entryRead _ | .softReset | .softResetClearing | .softResetEnd | .rstNReleased => none

/-! ### Waiters at a fetch return (R86) -/

/-- The value the `k`-th waiter of a list finds, the run's value being `v`. -/
def valueBefore (c : WinConfig) (clear : Bool) (v : Nat) (ws : List Waiter) (k : Nat) : Nat :=
  (ws.take k).foldl (waiterValue c clear) v

/-- The outcomes of a list of waiters, each judged from the value it finds (R86, R91). -/
def waiterOutcomes (c : WinConfig) (clear : Bool) (v : Nat) : List Waiter → List AlertKind
  | [] => []
  | y :: ys =>
    (match y with
     | .op o _ _ => applyOutcomes c o v
     | .capture _ => []) ++ waiterOutcomes c clear (waiterValue c clear v y) ys

/-- A record takes the result of a READ or TAKE with this link: its own, or as a dependent (R50, R55). -/
def Record.takes (r : Record) (link : Nat) : Prop :=
  r.key = link ∨ r.source = some link

/-- The `k`-th waiter of a list is a READ or TAKE of this ID whose result record `r` takes. -/
def answersAt (ws : List Waiter) (id : UpId) (r : Record) (k : Nat) : Prop :=
  ∃ o link, ws[k]? = some (.op o id link) ∧ (o.kind = .read ∨ o.kind = .take) ∧ r.takes link

/-! ### Allocation, ages and offers -/

/-- An allocation takes entry `e`, and leaves the clean list `rest`: the lowest-numbered FREE entry, or with none FREE
the head of the clean list (R64, R65). -/
def State.allocates (s : State) (e : EntryNo) (rest : List EntryNo) : Prop :=
  (s.entry e = none ∧ (∀ f < e, s.entry f ≠ none) ∧ s.clean = rest) ∨
    ((∀ f, s.entry f ≠ none) ∧ s.clean = e :: rest)

/-- The waiter records of R66's table: an offer of operation `k` on counter (w, i), with an early capture where `cap` is
set, needs `n` of them. A walk capture needs what a READ needs. No row is for a STRANDED entry. -/
def State.recordsNeeded (s : State) (w : WinNo) (i : Nat) (k : OpKind) (cap : Bool) (n : Nat) : Prop :=
  (s.lookup w i = none ∧ n = if cap = true then 2 else if k = .add then 0 else 1) ∨
    ∃ e x, s.lookup w i = some e ∧ s.entry e = some x ∧
      (((∃ d m, x.body = .accum d m) ∧ n = if cap = true then 2 else if k = .add then 0 else 1) ∨
        ((∃ d m q, x.body = .fetch d m q) ∧
          n = if cap = true then 2 else if k = .add ∧ x.waiters = [] then 0 else 1) ∨
        ((∃ v m, x.body = .held v m ∨ x.body = .write v m) ∧ n = 0))

/-- No entry can be had for a counter without one (R48, R66): none is FREE and the clean list is empty. -/
def State.noEntryFor (s : State) (w : WinNo) (i : Nat) : Prop :=
  s.lookup w i = none ∧ (∀ e, s.entry e ≠ none) ∧ s.clean = []

/-- The bytes of a PASS tag lie in a range of window `w` (R32). -/
def State.passInRanges (s : State) (w : WinNo) : Prop :=
  ∃ g r id link, s.tagAt g = some r ∧ r.owner = .pass id link ∧
    ∃ h ∈ (s.config w).ranges, Range.shares ⟨r.addr.toNat, r.addr.toNat + r.size⟩ h

/-- A stranding of an entry of window `w` fails a RUNNING snapshot: `w` goes to FAULT, and the snapshot is on it
(R144). -/
def State.strandFails (s : State) (w : WinNo) : Prop :=
  ((s.window w).state = .active ∨ (s.window w).state = .draining) ∧ (∃ l, s.snap.state = .running l) ∧
    ∃ b, s.snap.job = some b ∧ b.window = w

/-- Window `w` has left FAULT for its resume state; entering DRAINING flushes its dirty-list entries, in order, and frees
its clean ones (R38, R103). -/
def State.resumed (s : State) (w : WinNo) : Resume → State
  | .active => s.setWinState w .active
  | .draining =>
    let u := s.setWinState w .draining
    let flushed := u.startFlushes (u.dirty.filter (fun e => belongsTo w (u.entry e)))
    flushed.freeEntries (flushed.clean.filter (fun e => belongsTo w (flushed.entry e)))

/-- Tags in use whose owner `which` picks (R114). -/
def State.tagsWith (s : State) (which : Owner → Bool) : Nat :=
  ((List.finRange 32).filter (fun g => match s.tagAt g with
    | some r => which r.owner
    | none => false)).length

/-- Entry `e` joins a list by age (R69): behind entries at least as old as itself and ahead of a younger one; and ahead of
every younger one where the list was in the order of ages. -/
def State.joinsByAge (s : State) (e : EntryNo) (before after : List EntryNo) : Prop :=
  ∃ front back, before = front ++ back ∧ after = front ++ e :: back ∧ (∀ f ∈ front, s.age e ≤ s.age f) ∧
    (∀ f rest, back = f :: rest → s.age f < s.age e) ∧
    (before.Pairwise (fun f g => s.age g ≤ s.age f) → ∀ f ∈ back, s.age f < s.age e)

/-- The counter's entry is in FETCH. -/
def State.fetching (s : State) (w : WinNo) (i : Nat) : Prop :=
  ∃ e x d m q, s.lookup w i = some e ∧ s.entry e = some x ∧ x.body = .fetch d m q

/-- The wide-read latch does not serve the operation: it is no READ of higher lanes, or the latch is EMPTY, names another
counter, or does not hold every lane that the READ addresses (R56). -/
def State.unserved (s : State) (w : WinNo) (i : Nat) (o : Operation) (id : UpId) : Prop :=
  o.kind ≠ .read ∨ o.lane = 0 ∨ s.latch id = .empty ∨
    ∃ v k j, ((∃ src, s.latch id = .pending v k j src) ∨ ∃ u, s.latch id = .filled v k j u) ∧
      (v ≠ w ∨ k ≠ i ∨ o.lane < j ∨ (s.config w).width.lanes < o.lane + o.lanes)

/-! ### The clearing of a soft reset (R183) -/

/-- What the clearing leaves empty in every block. -/
def State.cleared (t : State) : Prop :=
  (∀ e, t.entry e = none) ∧ t.dirty = [] ∧ t.clean = [] ∧ t.issue = [] ∧
    (∀ w, t.window w = { state := .empty, config := none }) ∧ (∀ id, t.latch id = .empty) ∧
    t.snap = Snapshot.reset ∧ t.flushAllRunning = false ∧ t.flushAllDone = false ∧ t.carry = [] ∧
    t.alerts = [] ∧ t.faults = { first := none, further := 0 }

/-- A record that some entry's READ or TAKE waiter still owes an answer (R93). -/
def State.owesRecord (s : State) (id : UpId) (r : Record) : Prop :=
  r.answer = none ∧ ∃ e x k, s.entry e = some x ∧ answersAt x.waiters id r k

/-! ### The order of responses (R49, R51) -/

/-- One record later on: the same request, and an answer once given stays. -/
def Record.later (r r' : Record) : Prop :=
  r'.key = r.key ∧ r'.kind = r.kind ∧ r'.size = r.size ∧ r'.lane = r.lane ∧
    (r.answer.isSome = true → r'.answer = r.answer)

/-- A list later on: its `n` first records are gone, the others stand in their order, and new ones stand behind. -/
def laterList (n : Nat) (rs rs' : List Record) : Prop :=
  ∃ kept new, rs' = kept ++ new ∧ List.Forall₂ Record.later (rs.drop n) kept

/-! ### Commands at the management port (R173) -/

/-- A command is counted, and the frame that carried it is over. -/
def State.counted (s : State) : State :=
  { s with frame := none, takenCount := s.takenCount + 1 }

/-- The response of a command is held. -/
def State.answered (s : State) (code : Byte) (st : Status) (results : List Byte) : State :=
  { s with engine := .responseReady { code := code, status := st, results := results } }

/-- The field checks of WINDOW LOAD, in the words of R29. -/
def loadFieldsOk (a : LoadArgs) : Prop :=
  let l := a.lanes.toNat
  let n := a.count.toNat
  (l = 1 ∨ l = 2 ∨ l = 4) ∧ n ≠ 0 ∧ n ≤ 2 ^ 24 ∧ 4 * l ∣ a.storage.toNat ∧ 4 * l ∣ a.aliasBase.toNat ∧
    a.storage.toNat + n * (4 * l) ≤ 2 ^ 40 ∧ a.aliasBase.toNat + 4 * (n * (4 * l)) ≤ 2 ^ 40 ∧
    a.exponent.toNat ≤ 32 * l

/-- The ranges WINDOW LOAD would give its window (R4, R30). -/
def loadRanges (a : LoadArgs) : List Range :=
  let span := a.count.toNat * (4 * a.lanes.toNat)
  [⟨a.storage.toNat, a.storage.toNat + span⟩, ⟨a.aliasBase.toNat, a.aliasBase.toNat + 4 * span⟩]

/-- The overlaps WINDOW LOAD is refused for, in the words of R30. -/
def State.loadMeets (s : State) (a : LoadArgs) : Prop :=
  (∃ g h, loadRanges a = [g, h] ∧ g.shares h) ∨
    (∃ g ∈ loadRanges a, ∃ w c, (s.window w).state ≠ .empty ∧ (s.window w).config = some c ∧
      ∃ h ∈ c.ranges, g.shares h) ∨
    ∃ g ∈ loadRanges a, ∃ b, s.snap.state ≠ .idle ∧ s.snap.job = some b ∧ g.shares (s.destRegion b)

/-- The configuration WINDOW LOAD stores (R29). -/
def loadedConfig (a : LoadArgs) (l : Width) : WinConfig where
  storage := a.storage
  count := a.count.toNat
  width := l
  aliasBase := a.aliasBase
  policy := a.policy
  exponent := a.exponent.toNat

/-- The job SNAPSHOT START stores (R130). -/
def startedJob (w : WinNo) (a : StartArgs) : SnapJob where
  window := w
  first := a.first.toNat
  count := a.count.toNat
  dest := a.dest
  mode := a.mode
  cursor := a.first.toNat

/-- The snapshot engine at the acceptance of SNAPSHOT START, before its first walk step (R130). -/
def Snapshot.started (p : Snapshot) (b : SnapJob) : Snapshot :=
  { p with state := .running none, job := some b, exceptions := [], lastResult := .none, failing := none, done := false }

/-- The destination region of a snapshot to be (R129). -/
def State.startRegion (s : State) (w : WinNo) (a : StartArgs) : Range :=
  ⟨a.dest.toNat, a.dest.toNat + (s.config w).width.bytes * a.count.toNat⟩

/-- The argument checks of SNAPSHOT START, in the words of R129, step 4. -/
def State.startFieldsOk (s : State) (w : WinNo) (a : StartArgs) : Prop :=
  a.count.toNat ≠ 0 ∧ a.first.toNat + a.count.toNat ≤ (s.config w).count ∧
    (s.config w).width.bytes ∣ a.dest.toNat ∧ (s.startRegion w a).hi ≤ 2 ^ 40

/-- The overlaps SNAPSHOT START is refused for, in the words of R129, step 5. -/
def State.startMeets (s : State) (w : WinNo) (a : StartArgs) : Prop :=
  ∃ v c, (s.window v).state ≠ .empty ∧ (s.window v).config = some c ∧ ∃ h ∈ c.ranges, (s.startRegion w a).shares h

end Sys2Proof.Machine
end

