-- ==== Sys2Proof/Certificates/Slice0/Obligations.lean ====
section
/-!
DEFINITION. The statements for the provers, grouped as the spec's chapters are. `finish a b` is the end of the
happening whose own changes lead from `a` to `b`: the retries, checks and takings that the rules place at the same
happening (assumptions 2 and 11); `FinishKeepsAndRests` says what it never changes and when it changes nothing.
-/

open Sys2Proof Sys2Proof.Machine

/-! ### The step and the end of a happening -/

/-- A step runs the command at the front of the queue on the state with the queue's rest. -/
def Obligations.StepRunsFrontCommand : Prop :=
  ∀ (c : Instr) (rest : List Instr) (s : State), s.pending = c :: rest →
    step s = exec c { s with pending := rest }

/-- With no command waiting, a step is one core clock: every P clocks the tick count advances (R94). That the clock
runs at an empty queue, and stands still under RST_N, is the model's choice (assumptions 6 and 8). -/
def Obligations.IdleStepIsOneClock : Prop :=
  ∀ s : State, s.pending = [] →
    (s.rstAsserted = true → step s = .next s) ∧
    (s.rstAsserted = false → s.clock + 1 < s.prescaler → step s = .next { s with clock := s.clock + 1 }) ∧
    (s.rstAsserted = false → s.prescaler ≤ s.clock + 1 →
      ∃ t, step s = .next t ∧ t.clock = 0 ∧ t.tick = s.tick + 1 ∧ t.flushAgeInEffect = s.flushAge)

/-- Every command completes, and none touches the queue of commands. -/
def Obligations.EveryCommandCompletes : Prop :=
  ∀ (c : Instr) (s : State), ∃ t, exec c s = .next t ∧ t.pending = s.pending

/-- What the end of a happening never changes: the queue, the clock and the parameters, the frame and the taken-command
count; unless a soft reset runs, the management engine; and, while a request stands presented downstream, the tags, the
downstream arbiter and that request (the arbiter makes no choice then, R120).

Where nothing is due, the end of a happening only lets the response arbiter choose: no retry of the hold slot or
the walk is due, there is no pressure, no flush was started and none is due by age, no window can quiesce, no FLUSH
ALL can complete, no soft reset runs, no request waits, and no claim can be granted.

What the end of a happening always leaves done: a DRAINING window has an entry or the held request (R35); a FLUSH ALL in
progress has a mark or a carried entry (R108); a soft reset waiting for tags has one in use, and one waiting for its
responses owes one (R183, R184); with nothing presented upstream no head record is READY (R52); no request can be taken
(R42), and no eligible claim stands on a free channel (R118).

What it does, where one round leaves no further retry due: the retries that are due of the hold slot (R47) and the walk
(R133), both in the order of the free value of assumption 1; pressure (R100); the age check where a head of the dirty
list left it, by the happening, a retry or a pressure flush (R98); the order of flushes (R96); the response presented;
and then the taking or the grant that falls at once, each with its own end, both in the order of the free value of
assumption 21. The order of these is assumption 11. -/
def Obligations.FinishKeepsAndRests : Prop :=
  (∀ a b : State, let t := finish a b
     (t.pending = b.pending ∧ t.rstAsserted = b.rstAsserted ∧ t.tick = b.tick ∧ t.clock = b.clock ∧
       t.lowMark = b.lowMark ∧ t.flushAge = b.flushAge ∧ t.flushAgeInEffect = b.flushAgeInEffect ∧
       t.prescaler = b.prescaler ∧ t.enables = b.enables ∧ t.takenCount = b.takenCount ∧ t.frame = b.frame) ∧
     (b.softRunning = false → t.engine = b.engine) ∧
     (b.downReq ≠ none → t.tags = b.tags ∧ t.arbPtr = b.arbPtr ∧ t.secondGrant = b.secondGrant ∧
       t.downReq = b.downReq)) ∧
  (∀ a b : State, holdDue a b = false → walkDue a b = false → b.pressure = false →
     (headLeft a b = false ∨ b.flushAgeInEffect = 0) →
     (∀ w, (b.window w).state = .draining → b.entryCount w ≠ 0 ∨ b.holdsRequestOf w = true) →
     (b.flushAllRunning = true → b.anyFlushMark = true ∨ b.carry ≠ []) →
     b.softRunning = false → (∀ e, flushedNow a b e = false) → b.channel = [] → b.chosen = none →
     finish a b = b.chooseResponse) ∧
  (∀ a b : State, let t := finish a b
     (∀ w, (t.window w).state = .draining →
       (∃ e x, t.entry e = some x ∧ x.window = w) ∨ ∃ h, t.hold = some h ∧ h.decoded.window = w) ∧
     (t.flushAllRunning = true → (∃ e x, t.entry e = some x ∧ x.flushAll = true) ∨ t.carry ≠ []) ∧
     (t.engine = .executing .waitTags → ∃ g, t.tagAt g ≠ none) ∧
     (t.engine = .executing .waitDelivery → ∃ id, (t.list id).records ≠ []) ∧
     (t.presented = none → ∀ id, t.headReady id = false) ∧
     t.takeHead = none ∧ t.chosen = none) ∧
  (∀ a b r d : State,
     let counted : State := { b with choice := b.choice + 1 }
     let p := r.pressureAct
     let headGone := ∃ e es, (a.dirty = e :: es ∧ e ∉ b.dirty) ∨ (b.dirty = e :: es ∧ e ∉ r.dirty) ∨
       (r.dirty = e :: es ∧ e ∉ p.dirty)
     (holdDue a b = false → walkDue a b = false → r = b) →
     (holdDue a b = true → walkDue a b = false → r = b.retryHold) →
     (holdDue a b = false → walkDue a b = true → r = b.walkStep) →
     (holdDue a b = true → walkDue a b = true →
       r = if Config.walkFirst b.choice = true then counted.walkStep.retryHold else counted.retryHold.walkStep) →
     (headGone → d = p.ageCheck) → (¬ headGone → d = p) →
     holdDue b d = false → walkDue b d = false →
     (∀ w, (d.window w).state = .draining → d.entryCount w ≠ 0 ∨ d.holdsRequestOf w = true) →
     (d.flushAllRunning = true → d.anyFlushMark = true ∨ d.carry ≠ []) → d.softRunning = false →
     let u := (orderFlushes a d).chooseResponse
     let both : State := { u with choice := u.choice + 1 }
     (u.takeHead = none → u.chosen = none → finish a b = u) ∧
     (∀ v, u.takeHead = some v → u.chosen = none → finish a b = finish u v) ∧
     (u.takeHead = none → u.chosen ≠ none → finish a b = finish u u.grant) ∧
     (u.takeHead ≠ none → u.chosen ≠ none →
       (Config.grantFirst u.choice = true → finish a b = finish u both.grant) ∧
       (Config.grantFirst u.choice = false → ∀ v, both.takeHead = some v → finish a b = finish u v)))

/-! ### Resets -/

/-- A hard reset gives every block its reset value, at its happening (R22, R58, R92, R111, R125, R148, R154, R170,
R185). -/
def Obligations.HardResetValues : Prop :=
  ∀ s : State, ∃ t, exec .hardReset s = .next t ∧
    (∀ w, t.window w = { state := .empty, config := none } ∧ t.entryCount w = 0 ∧ t.strandedCount w = 0) ∧
    (t.hold = none ∧ (∀ id, (t.list id).records = [] ∧ t.latch id = .empty) ∧ t.respPtr = 15 ∧ t.presented = none) ∧
    ((∀ e, t.entry e = none) ∧ t.dirty = [] ∧ t.clean = [] ∧ t.issue = [] ∧ t.freeCount = 256 ∧
      t.freeWaiters = 64) ∧
    (t.tick = 0 ∧ t.clock = 0 ∧ t.lowMark = 32 ∧ t.flushAge = 4096 ∧ t.flushAgeInEffect = 4096 ∧
      t.prescaler = 1024 ∧ t.flushAllRunning = false ∧ t.flushAllDone = false ∧ t.carry = []) ∧
    ((∀ g, t.tagAt g = none) ∧ t.downReq = none ∧ t.arbPtr = .snap ∧ t.secondGrant = false) ∧
    (t.snap.state = .idle ∧ (∀ k, t.slot k = .free) ∧ t.snap.writeOrder = [] ∧ t.snap.exceptions = [] ∧
      t.snap.lastResult = .none ∧ t.snap.job = none ∧ t.snap.failing = none ∧ t.snap.done = false) ∧
    (t.faults.first = none ∧ t.faults.further = 0) ∧
    (t.alerts = [] ∧ t.alertSeq = 0 ∧ t.enables = 0 ∧ t.irqLow = false) ∧
    (t.engine = .idle ∧ t.takenCount = 0 ∧ t.softCount = 0 ∧ t.frame = none)

/-- The release of RST_N begins operation (R185): with no request waiting after a hard reset, the part stands at its
reset values; otherwise the end of a happening takes what waits. -/
def Obligations.ReleaseAfterHardReset : Prop :=
  (∀ s : State, s.channel = [] → ∃ t, exec .hardReset s = .next t ∧
    exec .rstNReleased t = .next { State.reset with pending := s.pending, choice := s.choice }) ∧
  ∀ s : State, exec .rstNReleased s = .next (finish s { s with rstAsserted := false })

/-- SOFT RESET, taken while some downstream tag is in use: the engine executes the first phase, the held request is
answered OFFLINE and leaves the hold slot, and no entry, window or tag changes until the tags are back, but that a
draining window may quiesce when the held request leaves (R182, R59, R35, R110, R124; assumption 19).

Taken with no tag in use, it has its clearing at the same happening (R182), and, with no response owed, its end (R184).

The clearing (R183): with every tag free, every block is cleared, and the parameters, the tick count and its clock
count, the alert sequence counter, the interrupt enables, the taken-command count and a frame in progress are kept.
With a response owed and no request held (R59), so are the tags, the arbiters' pointers and marks and the request
channel, and the records that a waiting READ or TAKE owes are READY with OFFLINE, its dependents too (R93, R55), while
every other record stands. With no response owed, the clearing is the end.

The end of a soft reset (R184): after the clearing, with every response order list empty, the soft reset count
advances by one modulo 256 and the response of SOFT RESET is held with status OK. -/
def Obligations.SoftResetTaken : Prop :=
  (∀ s : State, s.takesCommand = true → s.tagsFree = false →
    ∃ t, exec .softReset s = .next t ∧ t.engine = .executing .waitTags ∧ t.takenCount = s.takenCount + 1 ∧
      t.frame = none ∧ t.hold = none ∧ t.entries = s.entries ∧ t.tags = s.tags ∧
      (∀ w, (s.window w).state ≠ .draining → t.window w = s.window w) ∧ t.channel = s.channel ∧ t.snap = s.snap ∧
      (∀ h, s.hold = some h →
        (t.list h.request.id).records =
          answerRecords (fun r => decide (r.key = h.link)) (fun r => r.failure .offline)
            (s.list h.request.id).records)) ∧
  (∀ s : State, s.takesCommand = true → s.tagsFree = true →
    ∃ t, exec .softReset s = .next t ∧ t.cleared ∧ t.takenCount = s.takenCount + 1 ∧ t.frame = none ∧
      (s.listsEmpty = false → t.engine = .executing .waitDelivery ∧ t.softCount = s.softCount) ∧
      (s.listsEmpty = true → t.softCount = s.softCount + 1 ∧
        t.engine = .responseReady { code := codeSoftReset, status := .ok, results := [] })) ∧
  (∀ s : State, s.engine = .executing .waitTags → s.tagsFree = true →
     ∃ t, exec .softResetClearing s = .next t ∧ t.cleared ∧
       (t.tick = s.tick ∧ t.clock = s.clock ∧ t.lowMark = s.lowMark ∧ t.flushAge = s.flushAge ∧
         t.flushAgeInEffect = s.flushAgeInEffect ∧ t.prescaler = s.prescaler ∧ t.alertSeq = s.alertSeq ∧
         t.enables = s.enables ∧ t.takenCount = s.takenCount ∧ t.frame = s.frame) ∧
       (s.listsEmpty = false → s.hold = none →
         t.engine = .executing .waitDelivery ∧ t.tags = s.tags ∧ t.arbPtr = s.arbPtr ∧
         t.secondGrant = s.secondGrant ∧ t.channel = s.channel ∧
         (s.presented ≠ none → t.presented = s.presented ∧ t.respPtr = s.respPtr) ∧
         ∀ id, List.Forall₂ (fun r r' : Record =>
             (s.owesRecord id r → r' = { r with answer := some (r.failure .offline) }) ∧
             (¬ s.owesRecord id r → r' = r))
           (s.list id).records (t.list id).records) ∧
       (s.listsEmpty = true → t.softCount = s.softCount + 1 ∧
         t.engine = .responseReady { code := codeSoftReset, status := .ok, results := [] })) ∧
  (∀ s : State, s.engine = .executing .waitDelivery → s.listsEmpty = true →
     ∃ t, exec .softResetEnd s = .next t ∧ t.softCount = s.softCount + 1 ∧
       t.engine = .responseReady { code := codeSoftReset, status := .ok, results := [] })

/-! ### Ingress (chapter 3) -/

/-- The ranges that match (R24): none in EMPTY and LOADED, the alias range in QUIESCED, both in the other states.

The class of a request (R24): "window w" where its first byte lies in a matching range of w, "straddling" where only a
later byte lies in a matching range, "outside" where none does. Windows do not overlap (R30). A request's bytes past
2^40 lie in no range (assumption 9).

REQUEST_TAKEN: the masters present a request, which joins the channel's tail, and the end of the happening takes what
may be taken. That the channel is a list in the state is the model's choice (assumption 5).

The taking of the head request (R42 to R45): only under the taking conditions, among which the model counts that RST_N
is not asserted (the model's choice, assumption 6); a straddling request and one that
fails the form check are answered REFUSED, with zero data for a READ, and nothing else changes (R8, R44); an outside
request waits for a grant as the PASS claim (R43); a legal counter request gets its record, NOT READY, and is treated
under R45, which accepts or answers it, or parks it in the hold slot with the reason it waits for (R46).

A presented request is taken and answered in one command where nothing waits before it: a straddling one and one
that fails the form check REFUSED; a posted operation on an ACTIVE window that lacks nothing DONE, without data (R19,
R44, R45), where there is no pressure and no FLUSH ALL. -/
def Obligations.RequestTakenByClass : Prop :=
  (∀ x : Window, (x.config = none → x.matching = []) ∧
     ∀ c, x.config = some c →
       let span := c.count * (4 * c.width.lanes)
       let storage : Range := ⟨c.storage.toNat, c.storage.toNat + span⟩
       let planes : Range := ⟨c.aliasBase.toNat, c.aliasBase.toNat + 4 * span⟩
       (x.state = .empty ∨ x.state = .loaded → x.matching = []) ∧
       (x.state = .quiesced → x.matching = [planes]) ∧
       (x.state = .arming ∨ x.state = .active ∨ x.state = .draining ∨ (∃ q, x.state = .fault q) →
         x.matching = [storage, planes])) ∧
  (∀ (s : State) (r : Request),
     let a := r.addr.toNat
     let first := fun w => ∃ g ∈ (s.window w).matching, g.lo ≤ a ∧ a < g.hi
     let touched := ∃ w, ∃ g ∈ (s.window w).matching, g.shares ⟨a, a + r.size.bytes⟩
     (s.windowsDisjoint → ∀ w, classify s.windows r = .window w ↔ first w) ∧
     (classify s.windows r = .straddling ↔ (∀ w, ¬ first w) ∧ touched) ∧
     (classify s.windows r = .outside ↔ ¬ touched)) ∧
  (∀ (r : Request) (s : State), exec (.requestTaken r) s = .next (finish s { s with channel := s.channel ++ [r] })) ∧
  (∀ (s : State) (r : Request) (rest : List Request), s.channel = r :: rest → s.keysFresh →
     let may := (s.list r.id).records.length < 8 ∧ s.hold = none ∧ s.softRunning = false ∧ s.rstAsserted = false
     let refused : State := s.setList r.id
       { records := (s.list r.id).records ++
           [{ key := (s.list r.id).nextKey, kind := r.kind, size := r.size.bytes, lane := 0, source := none
              answer := some { status := .refused, data := if r.kind = .read then bytesLE r.size.bytes 0 else [] } }]
         nextKey := (s.list r.id).nextKey + 1 }
     (¬ may → s.takeHead = none ∧ s.passClaim = none) ∧
     (may → classify s.windows r = .outside → s.takeHead = none ∧ s.passClaim = some r) ∧
     (may → classify s.windows r = .straddling → s.takeHead = some { refused with channel := rest }) ∧
     (may → ∀ w, classify s.windows r = .window w → decodeCounter w (s.config w) r = none →
       s.takeHead = some { refused with channel := rest }) ∧
     (may → ∀ w d, classify s.windows r = .window w → decodeCounter w (s.config w) r = some d →
       let link := (s.list r.id).nextKey
       let t : State := State.setList { s with channel := rest } r.id
         { records := (s.list r.id).records ++
             [{ key := link, kind := r.kind, size := r.size.bytes, lane := d.op.lane, source := none
                answer := none }]
           nextKey := link + 1 }
       (∀ u, t.treat d r.id link = .settled u → s.takeHead = some u) ∧
       ∀ why, t.treat d r.id link = .waits why →
         s.takeHead = some { t with hold := some { request := r, decoded := d, link := link, reason := why } })) ∧
  (∀ (s : State) (r : Request), s.channel = [] → s.keysFresh → (s.list r.id).records.length < 8 → s.hold = none →
     s.softRunning = false → s.rstAsserted = false → (∀ w, (s.window w).state ≠ .draining) →
     let record := fun (lane : Nat) (st : UpStatus) (data : List Byte) =>
       ({ key := (s.list r.id).nextKey, kind := r.kind, size := r.size.bytes, lane := lane, source := none
          answer := some { status := st, data := data } } : Record)
     ((classify s.windows r = .straddling ∨
         ∃ w, classify s.windows r = .window w ∧ decodeCounter w (s.config w) r = none) →
       ∃ t, exec (.requestTaken r) s = .next t ∧ t.channel = [] ∧ (t.list r.id).records =
         (s.list r.id).records ++ [record 0 .refused (if r.kind = .read then bytesLE r.size.bytes 0 else [])]) ∧
     ∀ w d, classify s.windows r = .window w → (s.window w).state = .active →
       decodeCounter w (s.config w) r = some d → d.op.kind.isPosted = true →
       s.offerLack w d.index d.op.kind = none → s.pressure = false → s.flushAllRunning = false →
       ∃ t, exec (.requestTaken r) s = .next t ∧ t.channel = [] ∧
         (t.list r.id).records = (s.list r.id).records ++ [record d.op.lane .done []])

/-- The places of the counters (R4, R5, R7): a naturally aligned, fully enabled request at lane `k` of counter `i` in
plane `p` of a window decodes to that counter, that lane, its size in lanes and its operand; MAX and TAKE take whole
counters alone.

The access-form check (R5, R6): a request of more than 16 bytes, one whose address is no multiple of its size, a
WRITE with a byte enable clear, a WRITE of the TAKE plane, and a MAX or TAKE of less than a counter decode to
nothing. -/
def Obligations.AccessFormDecodes : Prop :=
  (∀ (w : WinNo) (c : WinConfig) (p : Plane) (k : OpKind) (i lane : Nat) (r : Request),
     i < c.count → ¬ c.storageRange.shares c.aliasRange → planeOperation p r.kind = some k →
     r.addr.toNat = c.planeBase p + c.width.bytes * i + 4 * lane →
     c.width.bytes ∣ c.planeBase p → r.size.bytes ≤ 16 → r.size.bytes ∣ 4 * lane →
     4 * lane + r.size.bytes ≤ c.width.bytes → (r.kind = .write → r.enables.toNat = 2 ^ r.size.bytes - 1) →
     (k = .max ∨ k = .take → r.size.bytes = c.width.bytes) →
     decodeCounter w c r = some
       { window := w, plane := p, index := i
         op := { kind := k, lane := lane, lanes := r.size.bytes / 4
                 x := if r.kind = .read then 0 else r.data.toNat % 2 ^ (8 * r.size.bytes) } }) ∧
  (∀ (w : WinNo) (c : WinConfig) (r : Request),
     (16 < r.size.bytes ∨ ¬ r.size.bytes ∣ r.addr.toNat ∨ c.width.bytes < r.size.bytes ∨
       (r.kind = .write ∧ r.enables.toNat % 2 ^ r.size.bytes ≠ 2 ^ r.size.bytes - 1) ∨
       (r.kind = .write ∧ c.planeOf r.addr.toNat = some .take) ∨
       (r.size.bytes < c.width.bytes ∧
         ((r.kind = .write ∧ c.planeOf r.addr.toNat = some .max) ∨ c.planeOf r.addr.toNat = some .take))) →
     decodeCounter w c r = none)

/-- The treatment of a legal request by its window's state (R25, R26): ARMING parks it; DRAINING and FAULT answer
updates OFFLINE; FAULT answers a READ of a stranded counter MEMFAULT; otherwise READs, and in ACTIVE every
operation, go on to the offer; QUIESCED answers OFFLINE, as do EMPTY and LOADED, in which no counter request is found
(the model's choice, assumption 17).

NOROOM (R48): an offer whose counter has no entry is answered NOROOM when all 256 entries are STRANDED, and waits
with reason NO_ENTRY when no entry is obtainable and some entry is not STRANDED.

The offer of what the latch does not serve (R45, R46, R56): it waits for what it lacks, or is accepted, its bearing on
the latch first, and a posted operation is then answered DONE. The latch does not serve an update or a TAKE, a READ from
lane 0, nor a higher-lane READ that it does not name or whose lanes it does not hold, which is offered as any READ.

What an offer lacks (R66, R136), the first in this order: an entry; with an early capture, a place of the exception list
of 16 and a FREE slot of the early slots 0 to 15; the waiter records of R66's table, by the state of the entry, of the
pool of 64 less those in use (R67).

The wide-read latch at an acceptance (R54, R57): a lane-0 partial READ sets it to PENDING, an update on the counter it
names empties it, and any other operation leaves it. -/
def Obligations.CounterRequestTreated : Prop :=
  (∀ (s : State) (d : CounterOp) (id : UpId) (link : Nat),
     let st := (s.window d.window).state
     let go := s.offer d.window d.index d.op id link
     let isRead := d.op.kind = .read
     let offline := Treated.settled (s.answerFailure id link .offline)
     (st = .arming → s.treat d id link = .waits .arming) ∧
     (st = .active → s.treat d id link = go) ∧
     (st = .draining ∧ isRead → s.treat d id link = go) ∧
     (st = .draining ∧ ¬ isRead → s.treat d id link = offline) ∧
     (∀ rs, st = .fault rs → ¬ isRead → s.treat d id link = offline) ∧
     (∀ rs, st = .fault rs → isRead → isStranded (s.counterEntry d.window d.index) = true →
       s.treat d id link = .settled (s.answerFailure id link .memfault)) ∧
     (∀ rs, st = .fault rs → isRead → isStranded (s.counterEntry d.window d.index) = false →
       s.treat d id link = go) ∧
     (st = .empty ∨ st = .loaded ∨ st = .quiesced → s.treat d id link = offline)) ∧
  (∀ (s : State) (w : WinNo) (i : Nat) (o : Operation) (id : UpId) (link : Nat),
     s.unserved w i o id → s.lookup w i = none → s.clean = [] → (∀ e, s.entry e ≠ none) →
     ((∀ e, isStranded (s.entry e) = true) →
       s.offer w i o id link = .settled (s.answerFailure id link .noroom)) ∧
     ((∃ e, isStranded (s.entry e) = false) → s.offer w i o id link = .waits .noEntry)) ∧
  (∀ (s : State) (w : WinNo) (i : Nat) (o : Operation) (id : UpId) (link : Nat),
     s.unserved w i o id →
     let t := (s.latchAtAcceptance w i o id link).accept w i o id link
     (∀ why, why ≠ .noEntry → s.offerLack w i o.kind = some why → s.offer w i o id link = .waits why) ∧
     (s.offerLack w i o.kind = none → o.kind ≠ .read → o.kind ≠ .take →
       s.offer w i o id link = .settled (t.answerDone id link [])) ∧
     (s.offerLack w i o.kind = none → o.kind = .read ∨ o.kind = .take → s.offer w i o id link = .settled t)) ∧
  (∀ (s : State) (w : WinNo) (i : Nat) (o : Operation) (id : UpId) (link : Nat),
     let t := s.latchAtAcceptance w i o id link
     (o.kind = .read → o.lane = 0 → o.lanes < (s.config w).width.lanes →
       t = s.setLatch id (.pending w i o.lanes link)) ∧
     (o.kind = .read → o.lane ≠ 0 ∨ (s.config w).width.lanes ≤ o.lanes → t = s) ∧
     (o.kind ≠ .read → ∀ j x, s.latch id = .pending w i j x ∨ s.latch id = .filled w i j x →
       t = s.setLatch id .empty) ∧
     (o.kind ≠ .read → (∀ j x, s.latch id ≠ .pending w i j x ∧ s.latch id ≠ .filled w i j x) → t = s)) ∧
  (∀ (s : State) (w : WinNo) (i : Nat) (k : OpKind),
     let cap := s.earlyCapture w i k
     let noPlace := cap = true ∧ 16 ≤ s.snap.exceptions.length
     let noSlot := cap = true ∧ ∀ j, j ≠ 16 → s.slot j ≠ .free
     (s.noEntryFor w i → s.offerLack w i k = some .noEntry) ∧
     (¬ s.noEntryFor w i → noPlace → s.offerLack w i k = some .noExceptionPlace) ∧
     (¬ s.noEntryFor w i → ¬ noPlace → noSlot → s.offerLack w i k = some .noCaptureSlot) ∧
     ∀ n, s.recordsNeeded w i k cap n → ¬ s.noEntryFor w i → ¬ noPlace → ¬ noSlot →
       s.offerLack w i k = if s.freeWaiters < n then some .noWaiter else none) ∧
  (∀ s : State, s.freeWaiters = 64 - ((List.finRange 256).map (fun e => match s.entry e with
     | some x => x.waiters.length
     | none => 0)).sum)

/-- HOLD_SLOT_RETRY (R47): the held request is treated afresh; it leaves the slot when it is answered or accepted, and
otherwise stays with the reason found now.

RESPONSE_DELIVERY (R51): the presented ID's head record is removed, and the channel is free.

The happenings of a retry (R47), by what a happening changed between its states `a` and `b`: its window's state, an
entry that became STRANDED, and by the reason it waits for, an entry gone FREE or joined to the clean list, a waiter
record returned or its counter's entry out of FETCH, an index out of the exception list, a capture slot freed though it
may be taken again, or the engine out of RUNNING.

A retry with an empty hold slot and a delivery with nothing presented cannot fall; that their rows then change nothing
is the model's choice (assumption 3). -/
def Obligations.HoldRetryAndDelivery : Prop :=
  (∀ s : State,
     (s.hold = none → exec .holdSlotRetry s = .next (finish s s)) ∧
     ∀ h, s.hold = some h →
       (∀ t, s.treat h.decoded h.request.id h.link = .settled t →
         exec .holdSlotRetry s = .next (finish s { t with hold := none })) ∧
       ∀ why, s.treat h.decoded h.request.id h.link = .waits why →
         exec .holdSlotRetry s = .next (finish s { s with hold := some { h with reason := why } })) ∧
  (∀ s : State,
     (∀ id, s.presented = some id → exec .responseDelivery s = .next (finish s
       { s.setList id { records := (s.list id).records.tail, nextKey := (s.list id).nextKey } with
         presented := none })) ∧
     (s.presented = none → exec .responseDelivery s = .next (finish s s))) ∧
  (∀ a b : State,
     let outOfRunning := (∃ l, a.snap.state = .running l) ∧ ∀ l, b.snap.state ≠ .running l
     let slotBack := fun k => a.slot k ≠ .free ∧
       (b.slot k = .free ∨ (∃ j v g, a.slot k = .writing j v g) ∧ ∀ j v g, b.slot k ≠ .writing j v g)
     (holdDue a b = true ↔ ∃ h, b.hold = some h ∧
       ((a.window h.decoded.window).state ≠ (b.window h.decoded.window).state ∨
         (∃ e, isStranded (a.entry e) = false ∧ isStranded (b.entry e) = true) ∨
         (h.reason = .noEntry ∧
           ((∃ e, a.entry e ≠ none ∧ b.entry e = none) ∨ ∃ e, e ∈ b.clean ∧ e ∉ a.clean)) ∨
         (h.reason = .noWaiter ∧ (a.freeWaiters < b.freeWaiters ∨
           (a.fetching h.decoded.window h.decoded.index ∧ ¬ b.fetching h.decoded.window h.decoded.index))) ∨
         (h.reason = .noExceptionPlace ∧
           ((∃ j, j ∈ a.snap.exceptions ∧ j ∉ b.snap.exceptions) ∨ outOfRunning)) ∨
         (h.reason = .noCaptureSlot ∧ ((∃ k, slotBack k) ∨ outOfRunning)))))

/-- The response arbiter (R52): it presents an ID whose head record is READY, none nearer after the pointer has one,
and the pointer moves to it; with none READY, nothing is presented; and a response presented already stays (R52).

A head is READY where its ID's list is not empty and the first record has an answer (R49). What is sent is the presented
ID with its head record's status and data (R51). -/
def Obligations.ArbiterPresentsNextReady : Prop :=
  (∀ s : State, s.presented = none →
    (∀ id, s.chooseResponse.presented = some id →
      s.headReady id = true ∧ s.chooseResponse.respPtr = id ∧
        ∀ j : UpId, (j - (s.respPtr + 1)).val < (id - (s.respPtr + 1)).val → s.headReady j = false) ∧
    (s.chooseResponse.presented = none → ∀ j, s.headReady j = false)) ∧
  (∀ s : State, s.presented ≠ none → s.chooseResponse = s) ∧
  (∀ (s : State) (id : UpId), s.headReady id = true ↔
     ∃ r rest a, (s.list id).records = r :: rest ∧ r.answer = some a) ∧
  (∀ (s : State) (id : UpId) (a : Answer), s.responseOut = some (id, a) ↔
     s.presented = some id ∧ ∃ r rest, (s.list id).records = r :: rest ∧ r.answer = some a)

/-- Responses of one ID are delivered in the order its requests were taken, and an answer once given stands (R49, R51):
at every command but a hard reset each list keeps its records in their order, behind which the newly taken ones
stand, and only a delivery removes a record, the head of the presented ID's list. -/
def Obligations.ResponsesStayInOrder : Prop :=
  ∀ (c : Instr) (s t : State), c ≠ .hardReset → exec c s = .next t → ∀ id,
    laterList (if c = .responseDelivery ∧ s.presented = some id then 1 else 0) (s.list id).records (t.list id).records

/-- The wide-read latch (R54 to R56): a READ of higher lanes of the latch's counter is served from it, at once where
it is FILLED, as a dependent of the source where it is PENDING; and the latched lanes are lanes of the one value
reported for the source. -/
def Obligations.LatchServesHigherLanes : Prop :=
  ∀ (s : State) (w : WinNo) (i j : Nat) (o : Operation) (id : UpId) (link : Nat),
    o.kind = .read → 1 ≤ o.lane → j ≤ o.lane → o.lane + o.lanes ≤ (s.config w).width.lanes →
    (∀ v, s.latch id = .filled w i j (v / 2 ^ (32 * j)) →
      s.offer w i o id link = .settled (s.answerDone id link (bytesLE (4 * o.lanes) (v / 2 ^ (32 * o.lane))))) ∧
    (∀ src, s.latch id = .pending w i j src → s.offer w i o id link = .settled (s.setList id
      { records := (s.list id).records.map (fun r => if r.key = link then { r with source := some src } else r)
        nextKey := (s.list id).nextKey })) ∧
    ∀ src v, s.latch id = .pending w i j src →
      (s.reportValue id src v).latch id = .filled w i j (v / 2 ^ (32 * j))

/-! ### Values and outcomes (chapter 1) -/

/-- ADD under WRAP (R9) and under SATURATE (R10): the sum modulo 2^W, or clamped at M; it wraps exactly when the sum
exceeds M, and saturates exactly when it is clamped from below M. -/
def Obligations.AddByPolicy : Prop :=
  (∀ (c : WinConfig) (o : Operation) (v : Nat), c.policy = .wrap → o.kind = .add →
     applyValue c o v = (v + o.x * 2 ^ (32 * o.lane)) % 2 ^ (32 * c.width.lanes) ∧
       (.wrapped ∈ applyOutcomes c o v ↔ 2 ^ (32 * c.width.lanes) - 1 < v + o.x * 2 ^ (32 * o.lane)) ∧
       .saturated ∉ applyOutcomes c o v) ∧
  (∀ (c : WinConfig) (o : Operation) (v : Nat), c.policy = .saturate → o.kind = .add →
     let top := 2 ^ (32 * c.width.lanes) - 1
     let sum := v + o.x * 2 ^ (32 * o.lane)
     applyValue c o v = (if sum ≤ top then sum else top) ∧
       (.saturated ∈ applyOutcomes c o v ↔ top < sum ∧ v < top) ∧ .wrapped ∉ applyOutcomes c o v)

/-- SUB, MAX and TAKE (R11, R12, R15): floor at zero, the larger, and zero, under either policy; SUB and TAKE have no
outcome, and MAX neither wraps nor saturates. -/
def Obligations.SubMaxTake : Prop :=
  ∀ (c : WinConfig) (o : Operation) (v : Nat),
    (o.kind = .sub → applyValue c o v = (if o.x * 2 ^ (32 * o.lane) ≤ v then v - o.x * 2 ^ (32 * o.lane) else 0) ∧
      applyOutcomes c o v = []) ∧
    (o.kind = .max → applyValue c o v = max v o.x ∧ .wrapped ∉ applyOutcomes c o v ∧
      .saturated ∉ applyOutcomes c o v) ∧
    (o.kind = .take → applyValue c o v = 0 ∧ applyOutcomes c o v = [])

/-- SET replaces the addressed lanes and leaves the others (R13): bit by bit, lanes `k` to `k + n − 1` are the
operand's and the rest are V's; and SET neither wraps nor saturates. -/
def Obligations.SetReplacesLanes : Prop :=
  ∀ (c : WinConfig) (o : Operation) (v b : Nat), o.kind = .set → o.x < 2 ^ (32 * o.lanes) →
    (applyValue c o v).testBit b =
        (if 32 * o.lane ≤ b ∧ b < 32 * (o.lane + o.lanes) then o.x.testBit (b - 32 * o.lane) else v.testBit b) ∧
      .wrapped ∉ applyOutcomes c o v ∧ .saturated ∉ applyOutcomes c o v

/-- Crossing the level (R16): LEVEL is among the outcomes exactly where the exponent is not 0 and the value rises from
below 2^e to at least 2^e, by an ADD, a MAX or a SET. -/
def Obligations.LevelCrossedUpward : Prop :=
  ∀ (c : WinConfig) (o : Operation) (v : Nat),
    .level ∈ applyOutcomes c o v ↔
      (o.kind = .add ∨ o.kind = .max ∨ o.kind = .set) ∧ c.exponent ≠ 0 ∧ v < 2 ^ c.exponent ∧
        2 ^ c.exponent ≤ applyValue c o v

/-- A run of gathered ADDs (R18, R75): the delta gathered from amounts and applied once gives what the ADDs give one
after another; it is judged once, from the value before it to the value after: it crosses the level upward, wraps where
the last addition or the gathering wrapped, and saturates where it is clamped from below M. -/
def Obligations.GatheredRunEqualsSequence : Prop :=
  ∀ (c : WinConfig) (m : Nat) (amounts : List Nat), m < c.width.modulus →
    let gathered := amounts.foldl (fun (a : Nat × Bool) x =>
      (policySum c.policy c.width a.1 x, foldMark c.width a.1 x a.2)) (0, false)
    runValue c gathered.1 m = amounts.foldl (policySum c.policy c.width) m ∧
      (.level ∈ runOutcomes c gathered.1 gathered.2 m ↔
        c.exponent ≠ 0 ∧ m < 2 ^ c.exponent ∧ 2 ^ c.exponent ≤ runValue c gathered.1 m) ∧
      (c.policy = .wrap → (.wrapped ∈ runOutcomes c gathered.1 gathered.2 m ↔
        c.width.modulus ≤ gathered.1 + m ∨ c.width.modulus ≤ amounts.sum)) ∧
      (c.policy = .saturate → (.saturated ∈ runOutcomes c gathered.1 gathered.2 m ↔
        m < c.width.modulus - 1 ∧ c.width.modulus ≤ m + amounts.sum))

/-- Values stay counter values (1.6): an operation within its counter's lanes keeps a value below 2^W. -/
def Obligations.ValuesStayInWidth : Prop :=
  ∀ (c : WinConfig) (o : Operation) (v : Nat), v < c.width.modulus → o.x < 2 ^ (32 * o.lanes) →
    o.lane + o.lanes ≤ c.width.lanes → (o.kind = .max → o.lane = 0) → applyValue c o v < c.width.modulus

/-! ### The update table (chapter 4) -/

/-- Allocation takes the lowest-numbered FREE entry (R64), and a grant the lowest-numbered free tag (R115). -/
def Obligations.LowestNumberedTaken : Prop :=
  (∀ (s : State) (e : EntryNo), s.lowestFree = some e ↔ s.entry e = none ∧ ∀ f < e, s.entry f ≠ none) ∧
  ∀ (s : State) (t : Tag), s.lowestTag = some t ↔ s.tagAt t = none ∧ ∀ u < t, s.tagAt u ≠ none

/-- An ADD whose counter has no entry (R74), with an entry FREE and no early capture to carry: the lowest-numbered FREE
entry gathers it in ACCUM and joins the tail of the dirty list, and no other entry, list or queue changes.

A resolving operation whose counter has no entry (R77), with an entry FREE and no early capture to carry: the
lowest-numbered FREE entry is in FETCH with the operation as its first waiter, at the tail of the issue queue. -/
def Obligations.FirstOperationAllocates : Prop :=
  (∀ (s : State) (w : WinNo) (i : Nat) (o : Operation) (id : UpId) (link : Nat) (e : EntryNo),
     o.kind = .add → s.lookup w i = none → s.earlyCapture w i .add = false →
     s.entry e = none → (∀ f < e, s.entry f ≠ none) →
     let t := s.accept w i o id link
     t.entry e = some
       { window := w, index := i, body := .accum (o.x * 2 ^ (32 * o.lane)) false, waiters := []
         dirtySince := some s.tick, lastUse := s.tick, flushAll := false, captureRequested := false, retry := false } ∧
       (∀ f, f ≠ e → t.entry f = s.entry f) ∧ t.dirty = s.dirty ++ [e] ∧ t.clean = s.clean ∧ t.issue = s.issue ∧
       t.alerts = s.alerts ∧ t.lists = s.lists ∧ t.snap = s.snap) ∧
  (∀ (s : State) (w : WinNo) (i : Nat) (o : Operation) (id : UpId) (link : Nat) (e : EntryNo),
     o.kind ≠ .add → s.lookup w i = none → s.earlyCapture w i o.kind = false →
     s.entry e = none → (∀ f < e, s.entry f ≠ none) →
     let t := s.accept w i o id link
     t.entry e = some
       { window := w, index := i, body := .fetch 0 false .resolve, waiters := [.op o id link]
         dirtySince := if o.kind = .read then none else some s.tick
         lastUse := s.tick, flushAll := false, captureRequested := false, retry := false } ∧
       (∀ f, f ≠ e → t.entry f = s.entry f) ∧ t.issue = s.issue ++ [e] ∧ t.dirty = s.dirty ∧ t.clean = s.clean ∧
       t.lists = s.lists)

/-- An operation without early capture on an entry in HELD or WRITE (R79, R80): it is applied to V at once, its
outcomes are raised, a READ or TAKE is answered with the old V's lanes, a latch whose source it is becomes FILLED with
the lanes of the old V that it holds (R55), and no list of another ID changes. A READ is a use, and moves a clean entry
to the clean list's tail (R71). An update makes a HELD entry dirty, at the dirty list's tail if it was clean, and sets
the redirty mark of an entry in WRITE that holds its tag.

On an entry in ACCUM, and in FETCH with no waiter, an ADD is folded into D under the window's policy (R75, R76). A
resolving operation turns ACCUM to FETCH and is its first waiter (R77); in FETCH it, and an ADD behind a waiter, joins
the list's tail (R76, R78).

With no entry FREE, the operation of a counter that has no entry reclaims the clean list's head (R64, R65, R74, R77).

An entry that goes FREE leaves every collection, and the free count rises by one (R65). -/
def Obligations.AcceptanceByEntryState : Prop :=
  (∀ (s : State) (w : WinNo) (i v : Nat) (o : Operation) (id : UpId) (link : Nat) (e : EntryNo) (x : Entry),
     s.lookup w i = some e → s.entry e = some x → x.window = w → x.index = i →
     s.earlyCapture w i o.kind = false →
     (x.body = .held v true ∨ x.body = .held v false ∨ x.body = .write v true ∨ x.body = .write v false) →
     let t := s.accept w i o id link
     let v' := applyValue (s.config w) o v
     let used : Entry := { x with lastUse := s.tick }
     let dirtied : Entry := { used with dirtySince := some (x.dirtySince.getD s.tick) }
     let raised := s.raise w i (applyOutcomes (s.config w) o v)
     (o.kind = .read → t.entry e = some used ∧ t.dirty = s.dirty ∧
       (x.body = .held v false → t.clean = s.clean.filter (fun f => decide (f ≠ e)) ++ [e]) ∧
       (x.body ≠ .held v false → t.clean = s.clean)) ∧
     (o.kind ≠ .read →
       (x.body = .held v true → t.entry e = some { dirtied with body := .held v' true } ∧ t.dirty = s.dirty ∧
         t.clean = s.clean) ∧
       (x.body = .held v false → t.entry e = some { dirtied with body := .held v' true } ∧
         t.dirty = s.dirty ++ [e] ∧ t.clean = s.clean.filter (fun f => decide (f ≠ e))) ∧
       ∀ m, x.body = .write v m → t.entry e = some { dirtied with body := .write v' (m || (s.tagOf e).isSome) } ∧
         t.dirty = s.dirty ∧ t.clean = s.clean) ∧
     (∀ f, f ≠ e → t.entry f = s.entry f) ∧ t.issue = s.issue ∧
     t.alerts = raised.alerts ∧ t.alertSeq = raised.alertSeq ∧
     (o.kind = .read ∨ o.kind = .take → (t.list id).records =
       answerRecords (Record.takesResult link) (fun r => { status := .done, data := laneBytes v r.lane r.size })
         (s.list id).records) ∧
     (o.kind = .read ∨ o.kind = .take → ∀ u k j, s.latch id = .pending u k j link →
       t.latch id = .filled u k j (v / 2 ^ (32 * j))) ∧
     ∀ j, j ≠ id → t.list j = s.list j) ∧
  (∀ (s : State) (w : WinNo) (i d : Nat) (m : Bool) (q : FetchCause) (o : Operation) (id : UpId) (link : Nat)
     (e : EntryNo) (x : Entry),
     s.lookup w i = some e → s.entry e = some x → x.window = w → x.index = i →
     s.earlyCapture w i o.kind = false →
     let t := s.accept w i o id link
     let c := s.config w
     let amount := o.x * 2 ^ (32 * o.lane)
     let d' := if c.policy = .wrap then (d + amount) % c.width.modulus else min (d + amount) (c.width.modulus - 1)
     let m' := m || decide (c.width.modulus - 1 < d + amount)
     let stamped : Entry := { x with lastUse := s.tick, dirtySince := some (x.dirtySince.getD s.tick) }
     let queued : Entry :=
       { x with
         lastUse := s.tick
         dirtySince := if o.kind = .read then x.dirtySince else some (x.dirtySince.getD s.tick)
         waiters := x.waiters ++ [.op o id link] }
     (o.kind = .add → x.body = .accum d m → t = s.setEntry e (some { stamped with body := .accum d' m' })) ∧
     (o.kind = .add → x.body = .fetch d m q → x.waiters = [] →
       t = s.setEntry e (some { stamped with body := .fetch d' m' q })) ∧
     (o.kind ≠ .add → x.body = .accum d m → t =
       { s.setEntry e (some { queued with body := .fetch d m .resolve }) with
         dirty := s.dirty.filter (fun f => decide (f ≠ e)), issue := s.issue ++ [e] }) ∧
     (o.kind ≠ .add ∨ x.waiters ≠ [] → x.body = .fetch d m q → t = s.setEntry e (some queued))) ∧
  (∀ (s : State) (w : WinNo) (i : Nat) (o : Operation) (id : UpId) (link : Nat) (e : EntryNo) (rest : List EntryNo),
     s.lookup w i = none → s.earlyCapture w i o.kind = false → (∀ f, s.entry f ≠ none) → s.clean = e :: rest →
     let t := s.accept w i o id link
     t.clean = rest ∧ (∀ f, f ≠ e → t.entry f = s.entry f) ∧
     (o.kind = .add → t.dirty = s.dirty ++ [e] ∧ t.issue = s.issue ∧ t.entry e = some
       { window := w, index := i, body := .accum (o.x * 2 ^ (32 * o.lane)) false, waiters := []
         dirtySince := some s.tick, lastUse := s.tick, flushAll := false, captureRequested := false
         retry := false }) ∧
     (o.kind ≠ .add → t.issue = s.issue ++ [e] ∧ t.dirty = s.dirty ∧ t.entry e = some
       { window := w, index := i, body := .fetch 0 false .resolve, waiters := [.op o id link]
         dirtySince := if o.kind = .read then none else some s.tick
         lastUse := s.tick, flushAll := false, captureRequested := false, retry := false })) ∧
  (∀ (s : State) (e : EntryNo), s.entry e ≠ none →
     let t := s.freeEntry e
     t.entry e = none ∧ t.freeCount = s.freeCount + 1 ∧ (∀ f, f ≠ e → t.entry f = s.entry f) ∧
     (e ∉ t.dirty ∧ e ∉ t.clean ∧ e ∉ t.issue ∧ e ∉ t.carry) ∧
     ∀ f, f ≠ e → (f ∈ t.dirty ↔ f ∈ s.dirty) ∧ (f ∈ t.clean ↔ f ∈ s.clean) ∧ (f ∈ t.issue ↔ f ∈ s.issue))

/-- Acceptance keeps acceptance order (R2, R3, R20): an accepted operation changes its own counter's coherent value
by its own effect alone, after its early capture where it carries one, and no other counter's. -/
def Obligations.AcceptanceKeepsCoherence : Prop :=
  ∀ (s : State) (mem : WinNo → Nat → Nat) (w : WinNo) (i : Nat) (o : Operation) (id : UpId) (link : Nat),
    s.oneEntryEach → s.cleanAgrees mem → s.memFits mem → s.accumHasNoWaiters → s.offerLack w i o.kind = none →
    ∀ v j, (s.accept w i o id link).coherent mem v j =
      if v = w ∧ j = i then
        applyValue (s.config w) o
          (if s.earlyCapture w i o.kind = true ∧ s.clearing = true then 0 else s.coherent mem w i)
      else s.coherent mem v j

/-- A fetch return keeps every coherent value (R2, R85 to R87): what was gathered and what waited is applied once, in
acceptance order, to the memory value. -/
def Obligations.FetchReturnKeepsCoherence : Prop :=
  ∀ (s : State) (mem : WinNo → Nat → Nat) (e : EntryNo) (x : Entry) (d : Nat) (marked : Bool) (q : FetchCause),
    s.oneEntryEach → s.memFits mem → s.entry e = some x → x.body = .fetch d marked q →
    ∀ v j, (s.fetched e (mem x.window x.index)).coherent mem v j = s.coherent mem v j

/-- The update table stays consistent through every step: one entry a counter (R62), waiters on entries in FETCH and
STRANDED alone, within the pool of 64 (R67, R68), each list with exactly its entries (R69, R71, R72), and the table's
tags with the entries whose transactions they are. The part right after reset is consistent, and in a consistent state
an entry in ACCUM has no waiters. -/
def Obligations.TableInvariantsKept : Prop :=
  State.reset.tableConsistent ∧
  (∀ s : State, s.tableConsistent → s.accumHasNoWaiters) ∧
  ∀ s t : State, s.tableConsistent → step s = .next t → t.tableConsistent

/-- Clean entries hold the memory value through every step (R61, R71), where the OK responses of the table's
transactions agree with memory: from a consistent table whose clean entries hold what memory holds, a step leaves clean
entries that do. What memory holds lies outside the part (assumption 20). -/
def Obligations.CleanEntriesAgree : Prop :=
  ∀ (s t : State) (mem : WinNo → Nat → Nat), s.tableConsistent → s.cleanAgrees mem →
    (∀ c rest g data, s.pending = c :: rest → responseOf c = some (g, true, data) → s.responseAgrees mem g data) →
    step s = .next t → t.cleanAgrees mem

/-- FETCH_RETURN (R85, R122): the response of a fetch's tag frees the tag and goes to its entry.

What a fetch return leaves of an entry without waiters (R85, R87): the gathered delta is applied to the memory
value; clean work ends HELD clean at the clean list's tail, or FREE in a draining window; dirty work stays HELD in the
dirty list, in its place by age (R69; where the ages stand out of order, assumption 22), or goes on to WRITE where a
flush, FLUSH ALL or a drain wants it written.

With waiters (R86, R87, R91): each finds the value the one before it left. The READs and TAKEs are answered with the
value they find, in list order, and no other record changes; a latch whose source one of them is becomes FILLED with
its lanes j to L - 1 of the value that this one finds, and no other latch changes (R55); a capture hands its slot the
value it finds, and, if it is the one capture, its slot joins the write order; the outcomes of the run and of each
waiter are raised in order; and the entry settles by whether the gathered delta or a waiter changed the value.

The success of a retried fetch (R157, R38): it does what any fetch return does to the entry, the records, the slots and
the lists; the retry mark and the failed-op kind are gone; and the window resumes where no other entry of it is STRANDED
or under retry, a window that resumes DRAINING flushing its dirty-list entries and freeing its clean ones (R103). -/
def Obligations.FetchReturns : Prop :=
  (∀ (s : State) (g : Tag) (r : TagRecord) (e : EntryNo) (data : BitVec 512),
     s.tagAt g = some r → r.owner = .table e → r.kind = .read → s.softInterval = false →
     exec (.fetchReturn g data) s =
       .next (finish s ((s.setTag g none).fetchOk e (data.toNat % 2 ^ (8 * r.size))))) ∧
  (∀ (s : State) (e : EntryNo) (x : Entry) (d m : Nat) (marked : Bool) (q : FetchCause),
     s.entry e = some x → x.body = .fetch d marked q → x.waiters = [] → x.retry = false →
     m < (s.config x.window).width.modulus →
     let t := s.fetchOk e m
     let v := policySum (s.config x.window).policy (s.config x.window).width m d
     (d = 0 → s.draining x.window = false →
       t.entry e = some { x with body := .held m false, dirtySince := none, lastUse := s.tick, flushAll := false
                                 captureRequested := false } ∧
         t.clean = s.clean.filter (fun y => decide (y ≠ e)) ++ [e]) ∧
     (d = 0 → s.draining x.window = true → t.entry e = none) ∧
     (d ≠ 0 → q = .flush ∨ x.flushAll = true ∨ s.draining x.window = true →
       t.entry e = some { x with body := .write v false, captureRequested := false } ∧ t.issue = s.issue ++ [e] ∧
         t.dirty = s.dirty) ∧
     (d ≠ 0 → q = .resolve → x.flushAll = false → s.draining x.window = false →
       t.entry e = some { x with body := .held v true, captureRequested := false } ∧
         t.joinsByAge e s.dirty t.dirty ∧ t.issue = s.issue)) ∧
  (∀ (s : State) (e : EntryNo) (x : Entry) (d m : Nat) (marked : Bool) (q : FetchCause),
     s.entry e = some x → x.body = .fetch d marked q → m < (s.config x.window).width.modulus →
     let t := s.fetched e m
     let c := s.config x.window
     let v0 := runValue c d m
     let found := valueBefore c s.clearing v0 x.waiters
     let v := found x.waiters.length
     let changed := d ≠ 0 ∨ ∃ k, k < x.waiters.length ∧ found (k + 1) ≠ found k
     let raised := s.raise x.window x.index (runOutcomes c d marked m ++ waiterOutcomes c s.clearing v0 x.waiters)
     let settled : Entry :=
       { x with
         waiters := []
         captureRequested := false
         retry := false
         dirtySince := if s.clearing && x.waiters.any isCapture then some (x.dirtySince.getD s.tick)
           else x.dirtySince }
     (∀ id, List.Forall₂ (fun r r' : Record =>
         (∀ k o link, x.waiters[k]? = some (.op o id link) → o.kind = .read ∨ o.kind = .take → r.takes link →
           r.answer = none → (∀ j, j < k → ¬ answersAt x.waiters id r j) →
           r' = { r with answer := some { status := .done, data := laneBytes (found k) r.lane r.size } }) ∧
         (r.answer ≠ none ∨ (∀ k, ¬ answersAt x.waiters id r k) → r' = r))
       (s.list id).records (t.list id).records) ∧
     (∀ k n j, x.waiters[k]? = some (.capture n) → (∀ i, i < k → x.waiters[i]? ≠ some (.capture n)) →
       s.slot n = .requested j → t.slot n = .captured j (found k)) ∧
     (x.waiters.any isCapture = false → t.snap = s.snap) ∧
     (∀ n j, x.waiters.filter isCapture = [.capture n] → s.slot n = .requested j →
       t.snap.writeOrder = s.snap.writeOrder ++ [n]) ∧
     (∀ id u k j src, s.latch id = .pending u k j src →
       let source := fun n => ∃ o : Operation, x.waiters[n]? = some (Waiter.op o id src) ∧
         (o.kind = .read ∨ o.kind = .take)
       (∀ n, source n → (∀ b, b < n → ¬ source b) → t.latch id = .filled u k j (found n / 2 ^ (32 * j))) ∧
       ((∀ n, ¬ source n) → t.latch id = s.latch id)) ∧
     (∀ id, (∀ u k j src, s.latch id ≠ .pending u k j src) → t.latch id = s.latch id) ∧
     (t.alerts = raised.alerts ∧ t.alertSeq = raised.alertSeq) ∧
     (∀ f, f ≠ e → t.entry f = s.entry f) ∧
     (¬ changed → s.draining x.window = false →
       t.entry e = some { settled with body := .held v false, dirtySince := none, lastUse := s.tick
                                       flushAll := false } ∧
         t.clean = s.clean.filter (fun y => decide (y ≠ e)) ++ [e]) ∧
     (¬ changed → s.draining x.window = true → t.entry e = none) ∧
     (changed → q = .flush ∨ x.flushAll = true ∨ s.draining x.window = true →
       t.entry e = some { settled with body := .write v false } ∧ t.issue = s.issue ++ [e] ∧ t.dirty = s.dirty) ∧
     (changed → q = .resolve → x.flushAll = false → s.draining x.window = false →
       t.entry e = some { settled with body := .held v true } ∧ t.joinsByAge e s.dirty t.dirty ∧
         t.issue = s.issue)) ∧
  (∀ (s : State) (e : EntryNo) (x : Entry) (m : Nat), s.entry e = some x → x.retry = false →
     s.fetchOk e m = s.fetched e m) ∧
  (∀ (s : State) (e : EntryNo) (x : Entry) (d m : Nat) (marked : Bool) (q : FetchCause) (rs : Resume),
     s.entry e = some x → x.body = .fetch d marked q → x.retry = true → (s.window x.window).state = .fault rs →
     let t := s.fetchOk e m
     let others := ∃ f y, f ≠ e ∧ s.entry f = some y ∧ y.window = x.window ∧
       (isStranded (s.entry f) = true ∨ y.retry = true)
     (others → t = s.fetched e m) ∧
     (¬ others → t = (s.fetched e m).resumed x.window rs) ∧
     (∀ y, t.entry e = some y → y.retry = false ∧ y.failedOp = none) ∧
     (others → (t.window x.window).state = .fault rs) ∧
     (¬ others → (t.window x.window).state = match rs with
       | .active => .active
       | .draining => .draining))

/-- WRITE_BACK_RETURN (R89, R122), and what it leaves of the entry: HELD dirty in its place by age where it was
redirtied (R69; where the ages stand out of order, assumption 22), HELD clean at the clean list's tail, or FREE in a
draining window.

The success of a retried write-back (R157, R38): it does what any write-back return does; the retry mark and the
failed-op kind are gone; and the window resumes where no other entry of it is STRANDED or under retry. -/
def Obligations.WriteBackReturns : Prop :=
  (∀ (s : State) (g : Tag) (r : TagRecord) (e : EntryNo),
    s.tagAt g = some r → r.owner = .table e → r.kind = .write → s.softInterval = false →
    exec (.writeBackReturn g) s = .next (finish s ((s.setTag g none).writeOk e))) ∧
  (∀ (s : State) (e : EntryNo) (x : Entry) (v : Nat) (redirty : Bool),
    s.entry e = some x → x.body = .write v redirty →
    let t := s.written e
    (redirty = true →
      t.entry e = some { x with body := .held v true, flushAll := decide (e ∈ s.carry), retry := false } ∧
      t.joinsByAge e s.dirty t.dirty) ∧
    (redirty = false → s.draining x.window = true → t.entry e = none) ∧
    (redirty = false → s.draining x.window = false →
      t.entry e = some { x with body := .held v false, flushAll := false, lastUse := s.tick, retry := false } ∧
        t.clean = s.clean.filter (fun y => decide (y ≠ e)) ++ [e]) ∧
    (∀ f, f ≠ e → t.entry f = s.entry f) ∧ e ∉ t.carry) ∧
  (∀ (s : State) (e : EntryNo) (x : Entry), s.entry e = some x → x.retry = false → s.writeOk e = s.written e) ∧
  (∀ (s : State) (e : EntryNo) (x : Entry) (v : Nat) (redirty : Bool) (rs : Resume),
     s.entry e = some x → x.body = .write v redirty → x.retry = true → (s.window x.window).state = .fault rs →
     let t := s.writeOk e
     let others := ∃ f y, f ≠ e ∧ s.entry f = some y ∧ y.window = x.window ∧
       (isStranded (s.entry f) = true ∨ y.retry = true)
     (others → t = s.written e) ∧
     (¬ others → t = (s.written e).resumed x.window rs) ∧
     (∀ y, t.entry e = some y → y.retry = false ∧ y.failedOp = none) ∧
     (others → (t.window x.window).state = .fault rs) ∧
     (¬ others → (t.window x.window).state = match rs with
       | .active => .active
       | .draining => .draining))

/-! ### The memory port (chapter 6) -/

/-- The arbiter's choice (R118, R119): on a free channel, out of the soft reset interval, the second grant of TABLE's
turn where it is due, and else the first eligible claimant after the pointer in the order PASS, TABLE, SNAP.

A claim is eligible (R116, R117) where it is presented and, with one tag taken, the free tags still cover the unused
reservations of the two others: 4 less TABLE's tags, 2 less SNAP's, none for PASS. PASS presents the channel's head
where it classifies as "outside" and may be taken (with RST_N released: assumption 6); TABLE the issue queue's head, an
entry in FETCH or WRITE; SNAP the write order's head, a CAPTURED slot. The table is under pressure where its FREE and
clean entries are fewer than the low mark (R100). -/
def Obligations.ArbiterChoosesInTurn : Prop :=
  (∀ s : State,
     let free := ((List.finRange 32).filter (fun g => (s.tagAt g).isNone)).length
     let tableLeft := 4 - s.tagsWith (fun o => match o with
       | .table _ => true
       | .pass _ _ | .snap _ => false)
     let snapLeft := 2 - s.tagsWith (fun o => match o with
       | .snap _ => true
       | .pass _ _ | .table _ => false)
     (s.eligible .pass = true ↔ 1 + tableLeft + snapLeft ≤ free ∧ ∃ r rest, s.channel = r :: rest ∧
       classify s.windows r = .outside ∧ (s.list r.id).records.length < 8 ∧ s.hold = none ∧
       s.softRunning = false ∧ s.rstAsserted = false) ∧
     (s.eligible .table = true ↔ 1 + snapLeft ≤ free ∧ ∃ e rest x, s.issue = e :: rest ∧ s.entry e = some x ∧
       ((∃ d m q, x.body = .fetch d m q) ∨ ∃ v m, x.body = .write v m)) ∧
     (s.eligible .snap = true ↔ 1 + tableLeft ≤ free ∧ ∃ k rest b j v, s.snap.writeOrder = k :: rest ∧
       s.snap.job = some b ∧ s.slot k = .captured j v) ∧
     (s.pressure = true ↔
       ((List.finRange 256).filter (fun e => (s.entry e).isNone)).length + s.clean.length < s.lowMark)) ∧
  ∀ s : State,
    (s.downReq ≠ none ∨ s.softInterval = true → s.chosen = none) ∧
    (s.downReq = none → s.softInterval = false → s.rstAsserted = false →
      (s.arbPtr = .table → s.secondGrant = true → s.pressure = true → s.eligible .table = true →
        s.chosen = some .table) ∧
      (¬ (s.arbPtr = .table ∧ s.secondGrant = true ∧ s.pressure = true ∧ s.eligible .table = true) →
        (s.eligible .pass = false → s.eligible .table = false → s.eligible .snap = false → s.chosen = none) ∧
        (s.arbPtr = .snap → s.eligible .pass = true → s.chosen = some .pass) ∧
        (s.arbPtr = .snap → s.eligible .pass = false → s.eligible .table = true → s.chosen = some .table) ∧
        (s.arbPtr = .snap → s.eligible .pass = false → s.eligible .table = false → s.eligible .snap = true →
          s.chosen = some .snap) ∧
        (s.arbPtr = .pass → s.eligible .table = true → s.chosen = some .table) ∧
        (s.arbPtr = .pass → s.eligible .table = false → s.eligible .snap = true → s.chosen = some .snap) ∧
        (s.arbPtr = .pass → s.eligible .table = false → s.eligible .snap = false → s.eligible .pass = true →
          s.chosen = some .pass) ∧
        (s.arbPtr = .table → s.eligible .snap = true → s.chosen = some .snap) ∧
        (s.arbPtr = .table → s.eligible .snap = false → s.eligible .pass = true → s.chosen = some .pass) ∧
        (s.arbPtr = .table → s.eligible .snap = false → s.eligible .pass = false → s.eligible .table = true →
          s.chosen = some .table)))

/-- DOWNSTREAM_GRANT for TABLE and SNAP (R88, R112, R120, R139): the lowest-numbered free tag is taken with the record
of the request, which is presented; the head leaves its queue. A grant with no choice cannot fall; that its row then
changes nothing is the model's choice (assumption 3).

DOWNSTREAM_GRANT for PASS (R43, R112, R121): the head request is taken, its record appended NOT READY, and it goes
downstream unchanged.

DOWNSTREAM_REQUEST_ACCEPTED (R120): the channel is free, and no tag changes. -/
def Obligations.GrantIssues : Prop :=
  (∀ s : State,
     (s.chosen = none → exec .downstreamGrant s = .next (finish s s)) ∧
     (∀ g e rest x d m q, s.chosen = some .table → s.lowestTag = some g → s.issue = e :: rest →
       s.entry e = some x → x.body = .fetch d m q →
       let n := (s.config x.window).width.bytes
       let a := (s.config x.window).counterAddr x.index
       exec .downstreamGrant s = .next (finish s
         { s.setTag g (some { owner := .table e, kind := .read, addr := a, size := n }) with
           issue := rest, arbPtr := .table, secondGrant := !s.secondGrantDue
           downReq := some { kind := .read, tag := g, addr := a, size := n, enables := [], data := [] } })) ∧
     (∀ g e rest x v r, s.chosen = some .table → s.lowestTag = some g → s.issue = e :: rest →
       s.entry e = some x → x.body = .write v r →
       let n := (s.config x.window).width.bytes
       let a := (s.config x.window).counterAddr x.index
       exec .downstreamGrant s = .next (finish s
         { (s.setTag g (some { owner := .table e, kind := .write, addr := a, size := n })).setEntry e
             (some { x with body := .write v false, dirtySince := none }) with
           issue := rest, arbPtr := .table, secondGrant := !s.secondGrantDue
           downReq := some { kind := .write, tag := g, addr := a, size := n, enables := List.replicate n true
                             data := bytesLE n v } })) ∧
     ∀ g k rest b j v, s.chosen = some .snap → s.lowestTag = some g → s.snap.writeOrder = k :: rest →
       s.snap.job = some b → s.slot k = .captured j v →
       let n := (s.config b.window).width.bytes
       let a : Addr := BitVec.ofNat 40 (b.dest.toNat + n * (j - b.first))
       let held : TagRecord := { owner := .snap k, kind := .write, addr := a, size := n }
       let u := (s.setTag g (some held)).setSlot k (.writing j v g)
       exec .downstreamGrant s = .next (finish s
         { u with
           snap := { u.snap with writeOrder := rest }
           arbPtr := .snap, secondGrant := false
           downReq := some { kind := .write, tag := g, addr := a, size := n, enables := List.replicate n true
                             data := bytesLE n v } })) ∧
  (∀ (s : State) (g : Tag) (r : Request) (rest : List Request),
     s.chosen = some .pass → s.lowestTag = some g → s.channel = r :: rest →
     let n := r.size.bytes
     let u := (s.setTag g (some { owner := .pass r.id (s.list r.id).nextKey, kind := r.kind, addr := r.addr
                                  size := n })).setList r.id
       { records := (s.list r.id).records ++
           [{ key := (s.list r.id).nextKey, kind := r.kind, size := n, lane := 0, source := none, answer := none }]
         nextKey := (s.list r.id).nextKey + 1 }
     exec .downstreamGrant s = .next (finish s
       { u with
         channel := rest, arbPtr := .pass, secondGrant := false
         downReq := some
           { kind := r.kind, tag := g, addr := r.addr, size := n
             enables := if r.kind = .read then [] else (List.range n).map (fun k => r.enables.getLsbD k)
             data := if r.kind = .read then [] else bytesLE n r.data.toNat } })) ∧
  (∀ s : State, exec .downstreamRequestAccepted s = .next (finish s { s with downReq := none }))

/-- PASS_THROUGH_COMPLETION (R121, R123): the tag is freed and the record made READY, DONE with the data on OK and
MEMFAULT on ERROR; then every arming window is checked.

The arming check of every window (R33, R123): each ARMING window with no PASS tag's bytes in its ranges is ACTIVE after
it, every other window stands, and nothing else changes.

An answer (R50): the record of the link becomes READY, if it was not, with DONE and the data, or with a failure's status
and, for a READ, zero data; no other record changes, and nothing else does. -/
def Obligations.PassThroughCompletes : Prop :=
  (∀ s : State, let t := s.armingChecks
     t = { s with windows := t.windows } ∧
     ∀ w, ((s.window w).state = .arming → ¬ s.passInRanges w →
         t.window w = { state := .active, config := (s.window w).config }) ∧
       ((s.window w).state ≠ .arming ∨ s.passInRanges w → t.window w = s.window w)) ∧
  (∀ (s : State) (id : UpId) (link : Nat) (data : List Byte) (st : UpStatus),
     let answered := fun (how : Record → Answer) (t : State) => t = { s with lists := t.lists } ∧
       (∀ j, j ≠ id → t.list j = s.list j) ∧ (t.list id).nextKey = (s.list id).nextKey ∧
       List.Forall₂ (fun r r' : Record =>
         r' = if r.key = link ∧ r.answer = none then { r with answer := some (how r) } else r)
         (s.list id).records (t.list id).records
     answered (fun _ => { status := .done, data := data }) (s.answerDone id link data) ∧
     answered (fun r => { status := st, data := if r.kind = .read then List.replicate r.size 0 else [] })
       (s.answerFailure id link st)) ∧
  ∀ (s : State) (g : Tag) (r : TagRecord) (id : UpId) (link : Nat) (data : BitVec 512),
    s.tagAt g = some r → r.owner = .pass id link →
    (exec (.passThroughCompletion g true data) s = .next (finish s
      (((s.setTag g none).answerDone id link
        (if r.kind = .read then bytesLE r.size (data.toNat % 2 ^ (8 * r.size)) else [])).armingChecks))) ∧
    exec (.passThroughCompletion g false data) s = .next (finish s
      (((s.setTag g none).answerFailure id link .memfault).armingChecks))

/-- Responses outside their owners' life (R113, R90, R147): in the soft reset interval a TABLE response frees its tag
and its entry rejoins the issue queue as it is, a SNAP response frees its tag alone; a response whose tag is free is
discarded. -/
def Obligations.ResponsesAbsorbed : Prop :=
  ∀ (s : State) (g : Tag) (ok : Bool) (data : BitVec 512),
    (∀ r e, s.softInterval = true → s.tagAt g = some r → r.owner = .table e →
      exec (.tableResponseAbsorbed g ok data) s =
        .next (finish s { s.setTag g none with issue := s.issue ++ [e] })) ∧
    (∀ r k, s.softInterval = true → s.tagAt g = some r → r.owner = .snap k →
      exec (.snapResponseAbsorbed g ok) s = .next (finish s (s.setTag g none))) ∧
    (s.tagAt g = none → exec (.orphanResponse g ok data) s = .next (finish s s))

/-- The tag reservations hold through every step (R116).

Pass-through holds at most 26 tags (R114): it follows from the reservations. -/
def Obligations.ReservationsKept : Prop :=
  (∀ s t : State, s.reservesCovered → step s = .next t → t.reservesCovered) ∧
  (∀ s : State, s.reservesCovered → s.tagsOf .pass ≤ 26)

/-! ### The window table (chapter 2) -/

/-- A window number above 15 is answered BAD_ARGUMENT and changes nothing else (R28, R129, R156, R159). That a refused
command has no results is the model's reading (assumption 14). -/
def Obligations.WindowNumberChecked : Prop :=
  ∀ (s : State) (w : BitVec 8), s.takesCommand = true → 15 < w.toNat →
    exec (.windowArm w) s = .next (finish s (s.counted.answered codeWindowArm .badArgument [])) ∧
    exec (.windowDrain w) s = .next (finish s (s.counted.answered codeWindowDrain .badArgument [])) ∧
    exec (.windowRelease w) s = .next (finish s (s.counted.answered codeWindowRelease .badArgument [])) ∧
    exec (.windowStatus w) s = .next (s.counted.answered codeWindowStatus .badArgument []) ∧
    exec (.retry w) s = .next (finish s (s.counted.answered codeRetry .badArgument [])) ∧
    exec (.discard w) s = .next (finish s (s.counted.answered codeDiscard .badArgument [])) ∧
    (∀ a : LoadArgs, a.window = w →
      exec (.windowLoad a) s = .next (finish s (s.counted.answered codeWindowLoad .badArgument []))) ∧
    ∀ a : StartArgs, a.window = w →
      exec (.snapshotStart a) s = .next (finish s (s.counted.answered codeSnapshotStart .badArgument []))

/-- WINDOW_LOAD (R29, R30): the checks in their order, and where they pass the window is LOADED with the configuration
the command carries. -/
def Obligations.WindowLoads : Prop :=
  ∀ (s : State) (a : LoadArgs) (w : WinNo), s.takesCommand = true → a.window.toNat = w.val →
    let refused := fun st => exec (.windowLoad a) s = .next (finish s (s.counted.answered codeWindowLoad st []))
    ((s.window w).state ≠ .empty → refused .wrongState) ∧
    ((s.window w).state = .empty → ¬ loadFieldsOk a → refused .badArgument) ∧
    ((s.window w).state = .empty → loadFieldsOk a → s.loadMeets a → refused .overlap) ∧
    ∀ l : Width, l.lanes = a.lanes.toNat → (s.window w).state = .empty → loadFieldsOk a → ¬ s.loadMeets a →
      exec (.windowLoad a) s = .next (finish s
        ((s.counted.setWindow w { state := .loaded, config := some (loadedConfig a l) }).answered
          codeWindowLoad .ok []))

/-- WINDOW_ARM (R32, R33): from LOADED or QUIESCED the window arms, and is ACTIVE at once where no PASS tag's bytes lie
in its ranges; in any other state it is refused.

WINDOW_BECOMES_ACTIVE (R33): an ARMING window with no PASS tag in its ranges becomes ACTIVE; otherwise nothing
changes. That this row makes again a check that the model makes at its own happening, and otherwise changes nothing, is
assumptions 2 and 3. -/
def Obligations.WindowArms : Prop :=
  (∀ (s : State) (w : WinNo), s.takesCommand = true →
     let st := (s.window w).state
     let c := BitVec.ofNat 8 w.val
     let inFlight := ∃ g r id link, s.tagAt g = some r ∧ r.owner = .pass id link ∧
       ∃ h ∈ (s.config w).ranges, Range.shares ⟨r.addr.toNat, r.addr.toNat + r.size⟩ h
     (st ≠ .loaded → st ≠ .quiesced →
       exec (.windowArm c) s = .next (finish s (s.counted.answered codeWindowArm .wrongState []))) ∧
     (st = .loaded ∨ st = .quiesced → inFlight →
       exec (.windowArm c) s =
         .next (finish s ((s.counted.setWinState w .arming).answered codeWindowArm .ok []))) ∧
     (st = .loaded ∨ st = .quiesced → ¬ inFlight →
       exec (.windowArm c) s =
         .next (finish s ((s.counted.setWinState w .active).answered codeWindowArm .ok [])))) ∧
  (∀ (s : State) (w : WinNo),
     ((s.window w).state = .arming → s.passTagIn w = false →
       exec (.windowBecomesActive w) s = .next (finish s (s.setWinState w .active))) ∧
     ((s.window w).state ≠ .arming ∨ s.passTagIn w = true →
       exec (.windowBecomesActive w) s = .next (finish s s)))

/-- WINDOW_DRAIN (R34, R103): its checks in order; where they pass the window goes to DRAINING, its dirty entries are
flushed in dirty-list order, and its clean entries freed.

WINDOW_QUIESCE (R35): a DRAINING window with entry count 0 and no held request becomes QUIESCED; otherwise nothing
changes. That this row makes again a check that the model makes at its own happening, and otherwise changes nothing, is
assumptions 2 and 3. -/
def Obligations.WindowDrains : Prop :=
  (∀ (s : State) (w : WinNo), s.takesCommand = true →
     let c := BitVec.ofNat 8 w.val
     let onIt := s.snap.state ≠ .idle ∧ ∃ b, s.snap.job = some b ∧ b.window = w
     let u := s.counted.setWinState w .draining
     let flushed := u.startFlushes (s.dirty.filter (fun e => belongsTo w (s.entry e)))
     ((s.window w).state ≠ .active →
       exec (.windowDrain c) s = .next (finish s (s.counted.answered codeWindowDrain .wrongState []))) ∧
     ((s.window w).state = .active → onIt →
       exec (.windowDrain c) s = .next (finish s (s.counted.answered codeWindowDrain .conflict []))) ∧
     ((s.window w).state = .active → ¬ onIt →
       exec (.windowDrain c) s = .next (finish s
         ((flushed.freeEntries (s.clean.filter (fun e => belongsTo w (flushed.entry e)))).answered
           codeWindowDrain .ok [])))) ∧
  (∀ (s : State) (w : WinNo),
     let due := (s.window w).state = .draining ∧ (∀ e x, s.entry e = some x → x.window ≠ w) ∧
       ∀ h, s.hold = some h → h.decoded.window ≠ w
     (due → exec (.windowQuiesce w) s = .next (finish s (s.setWinState w .quiesced))) ∧
     (¬ due → exec (.windowQuiesce w) s = .next (finish s s)))

/-- WINDOW_RELEASE (R31): from LOADED or QUIESCED the window is EMPTY without configuration, and a latch that names a
counter of it is EMPTY; in any other state it is refused.

WINDOW_STATUS (R39): state, resume state and the two counts, in the codes of 10.6, and no change of the table. -/
def Obligations.WindowReleasesAndReports : Prop :=
  (∀ (s : State) (w : WinNo), s.takesCommand = true →
     let st := (s.window w).state
     let c := BitVec.ofNat 8 w.val
     (st ≠ .loaded → st ≠ .quiesced →
       exec (.windowRelease c) s = .next (finish s (s.counted.answered codeWindowRelease .wrongState []))) ∧
     (st = .loaded ∨ st = .quiesced →
       exec (.windowRelease c) s = .next (finish s
         (State.answered
           { s.counted.setWindow w { state := .empty, config := none } with
             latches := s.latches.map (fun l => if l.names w then .empty else l) }
           codeWindowRelease .ok [])))) ∧
  (∀ (s : State) (w : WinNo), s.takesCommand = true →
     exec (.windowStatus (BitVec.ofNat 8 w.val)) s = .next (s.counted.answered codeWindowStatus .ok
       ((match (s.window w).state with
         | .empty => [0, 0xFF]
         | .loaded => [1, 0xFF]
         | .arming => [2, 0xFF]
         | .active => [3, 0xFF]
         | .draining => [4, 0xFF]
         | .quiesced => [5, 0xFF]
         | .fault .active => [6, 3]
         | .fault .draining => [6, 4]) ++ bytesLE 2 (s.entryCount w) ++ bytesLE 2 (s.strandedCount w))))

/-- Windows stay disjoint through every step: configurations stand outside EMPTY alone, and no two ranges share a byte
(R21, R30). -/
def Obligations.WindowsStayDisjoint : Prop :=
  ∀ s t : State, s.windowsDisjoint → step s = .next t → t.windowsDisjoint

/-! ### The snapshot engine (chapter 7) -/

/-- SNAPSHOT_START (R129, R130): its checks in their order, and where they pass the job is stored and the first walk
step made. -/
def Obligations.SnapshotStarts : Prop :=
  ∀ (s : State) (a : StartArgs) (w : WinNo), s.takesCommand = true → a.window.toNat = w.val →
    let refused := fun st => exec (.snapshotStart a) s = .next (finish s (s.counted.answered codeSnapshotStart st []))
    (s.snap.state ≠ .idle → refused .busy) ∧
    (s.snap.state = .idle → (s.window w).state ≠ .active → refused .wrongState) ∧
    (s.snap.state = .idle → (s.window w).state = .active → ¬ s.startFieldsOk w a → refused .badArgument) ∧
    (s.snap.state = .idle → (s.window w).state = .active → s.startFieldsOk w a → s.startMeets w a →
      refused .overlap) ∧
    (s.snap.state = .idle → (s.window w).state = .active → s.startFieldsOk w a → ¬ s.startMeets w a →
      exec (.snapshotStart a) s = .next (finish s
        ((State.walkStep { s.counted with snap := s.snap.started (startedJob w a) }).answered
          codeSnapshotStart .ok [])))

/-- A walk step (R132): outside RUNNING, or with the walk slot in use, nothing is done; an index of the exception list
at the cursor is removed and passed over; with the cursor on another index, the capture of the counter there is
requested for the walk slot, or the lack is recorded and the slot stays FREE; at f + n the completion check is made.

The lack that stood before a step whose cursor is at f + n becomes none (the model's choice, assumption 23).

What a walk request lacks (R66): an entry, or else the waiter records of R66's table.

The happenings of a retry of the walk (R133): with lack NO_ENTRY, an entry gone FREE or joined to the clean list; with
NO_WAITER, a waiter record returned, or the entry of the counter at the cursor out of FETCH.

WALK_RETRY (R133): a RUNNING walk that lacks something makes its request again; otherwise nothing changes (the row makes
again a request that the model makes at its own happening: assumptions 2 and 3).

The walk's capture request, by the counter's entry (R81): allocated in a FREE entry, or else in the reclaimed head of
the clean list (R65), or turned to FETCH with the CAPTURE waiter, queued on FETCH, and taken at once in HELD and WRITE.

A capture taken at once (R83, R134, R138): its slot holds V and joins the write order, the walk's moves the cursor, and
no alert is raised; COPY leaves the counter as it was, COPY_CLEAR sets V to 0 as an update.

The withdrawal of untaken captures (R84): every marked entry loses its CAPTURE waiters and its mark, and nothing else
changes.

An update carries an early capture under the five conditions of R135, where no capture stands queued on its entry (R82).
It is accepted with the lowest-numbered FREE early slot and a place of the exception list, its capture placed ahead of
it, on its counter's entry or on one newly allocated or reclaimed (R82, R127, R136, R137). -/
def Obligations.WalkStepsAndRetries : Prop :=
  (∀ (s : State) (b : SnapJob), s.snap.job = some b → s.softInterval = false →
     (s.snap.state.isRunning = false ∨ s.slot 16 ≠ .free → s.walkStep = s) ∧
     (s.snap.state.isRunning = true → s.slot 16 = .free → b.cursor < b.first + b.count →
       b.cursor ∉ s.snap.exceptions →
       (∀ l, s.walkLackOf b.window b.cursor = some l →
         s.walkStep = { s with snap := { s.snap with state := .running (some l) } }) ∧
       (s.walkLackOf b.window b.cursor = none →
         s.walkStep = ({ s.setSlot 16 (.requested b.cursor) with
           snap := { (s.setSlot 16 (.requested b.cursor)).snap with state := .running none } }).requestCapture
             b.window b.cursor 16)) ∧
     (s.snap.state.isRunning = true → s.slot 16 = .free → b.cursor < b.first + b.count →
       b.cursor ∈ s.snap.exceptions →
       s.walkStep = State.walkStep { s with snap := { s.snap with
         job := some { b with cursor := b.cursor + 1 }
         exceptions := s.snap.exceptions.filter (fun j => decide (j ≠ b.cursor)) } }) ∧
     (s.snap.state.isRunning = true → s.slot 16 = .free → b.first + b.count ≤ b.cursor →
       s.walkStep = State.completionCheck { s with snap := { s.snap with state := .running none } })) ∧
  (∀ s : State,
     (∀ l, s.snap.state = .running (some l) → exec .walkRetry s = .next (finish s s.walkStep)) ∧
     ((∀ l, s.snap.state ≠ .running (some l)) → exec .walkRetry s = .next (finish s s))) ∧
  (∀ (s : State) (w : WinNo) (i : Nat),
     (s.noEntryFor w i → s.walkLackOf w i = some .noEntry) ∧
     ∀ n, s.recordsNeeded w i .read false n → ¬ s.noEntryFor w i →
       s.walkLackOf w i = if s.freeWaiters < n then some .noWaiter else none) ∧
  (∀ a b : State, walkDue a b = true ↔
     (b.snap.state = .running (some .noEntry) ∧
       ((∃ e, a.entry e ≠ none ∧ b.entry e = none) ∨ ∃ e, e ∈ b.clean ∧ e ∉ a.clean)) ∨
     (b.snap.state = .running (some .noWaiter) ∧ ∃ j, b.snap.job = some j ∧
       (a.freeWaiters < b.freeWaiters ∨ (a.fetching j.window j.cursor ∧ ¬ b.fetching j.window j.cursor)))) ∧
  (∀ (s : State) (w : WinNo) (i : Nat) (k : SlotNo),
     let t := s.requestCapture w i k
     (∀ (e : EntryNo) (rest : List EntryNo), s.lookup w i = none → s.allocates e rest →
       t.entry e = some
         { window := w, index := i, body := .fetch 0 false .resolve, waiters := [.capture k], dirtySince := none
           lastUse := s.tick, flushAll := false, captureRequested := true, retry := false } ∧
       t.issue = s.issue ++ [e] ∧ t.dirty = s.dirty ∧ t.clean = rest ∧ ∀ f, f ≠ e → t.entry f = s.entry f) ∧
     ∀ e x, s.lookup w i = some e → s.entry e = some x →
       let queued : Entry :=
         { x with waiters := x.waiters ++ [.capture k], lastUse := s.tick, captureRequested := true }
       (∀ d m, x.body = .accum d m → t =
         { s.setEntry e (some { queued with body := .fetch d m .resolve }) with
           dirty := s.dirty.filter (fun f => decide (f ≠ e)), issue := s.issue ++ [e] }) ∧
       (∀ d m q, x.body = .fetch d m q → t = s.setEntry e (some queued)) ∧
       (∀ v m, x.body = .held v m ∨ x.body = .write v m → t = s.captureNow e k)) ∧
  (∀ (s : State) (e : EntryNo) (k : SlotNo) (x : Entry) (j v : Nat) (m : Bool), s.entry e = some x →
     s.slot k = .requested j → x.body = .held v m ∨ x.body = .write v m →
     let t := s.captureNow e k
     let used : Entry := { x with lastUse := s.tick }
     let dirtied : Entry := { used with dirtySince := some (x.dirtySince.getD s.tick) }
     t.slot k = .captured j v ∧ (∀ i, i ≠ k → t.slot i = s.slot i) ∧ t.snap.writeOrder = s.snap.writeOrder ++ [k] ∧
     (k = 16 → ∀ b, s.snap.job = some b → t.snap.job = some { b with cursor := b.cursor + 1 }) ∧
     (k ≠ 16 → t.snap.job = s.snap.job) ∧ t.alerts = s.alerts ∧ t.alertSeq = s.alertSeq ∧ t.issue = s.issue ∧
     (∀ f, f ≠ e → t.entry f = s.entry f) ∧
     (s.clearing = false → t.entry e = some used ∧ t.dirty = s.dirty ∧
       (x.body = .held v false → t.clean = s.clean.filter (fun f => decide (f ≠ e)) ++ [e]) ∧
       (x.body ≠ .held v false → t.clean = s.clean)) ∧
     (s.clearing = true →
       (x.body = .held v true → t.entry e = some { dirtied with body := .held 0 true } ∧ t.dirty = s.dirty ∧
         t.clean = s.clean) ∧
       (x.body = .held v false → t.entry e = some { dirtied with body := .held 0 true } ∧ t.dirty = s.dirty ++ [e] ∧
         t.clean = s.clean.filter (fun f => decide (f ≠ e))) ∧
       (x.body = .write v m → t.entry e = some { dirtied with body := .write 0 (m || (s.tagOf e).isSome) } ∧
         t.dirty = s.dirty ∧ t.clean = s.clean))) ∧
  (∀ s : State, let t := s.withdrawCaptures
     t = { s with entries := t.entries } ∧
     ∀ e, (s.entry e = none → t.entry e = none) ∧ ∀ x, s.entry e = some x →
       (x.captureRequested = false → t.entry e = some x) ∧
       (x.captureRequested = true → t.entry e = some
         { x with waiters := x.waiters.filter (fun y => !isCapture y), captureRequested := false })) ∧
  (∀ (s : State) (w : WinNo) (i : Nat) (o : OpKind), s.earlyCapture w i o = true ↔
     o ≠ .read ∧ (∀ e x, s.lookup w i = some e → s.entry e = some x → x.captureRequested = false) ∧
     (∃ l, s.snap.state = .running l) ∧
     ∃ b, s.snap.job = some b ∧ b.window = w ∧ b.first ≤ i ∧ i < b.first + b.count ∧ b.cursor ≤ i ∧
       i ∉ s.snap.exceptions) ∧
  (∀ (s : State) (w : WinNo) (i : Nat) (o : Operation) (id : UpId) (link : Nat) (e : EntryNo) (rest : List EntryNo)
     (k : SlotNo),
     s.lookup w i = none → s.allocates e rest → s.earlyCapture w i o.kind = true →
     k ≠ 16 → s.slot k = .free → (∀ j < k, s.slot j ≠ .free) →
     let t := s.accept w i o id link
     t.entry e = some
       { window := w, index := i, body := .fetch 0 false .resolve, waiters := [.capture k, .op o id link]
         dirtySince := some s.tick, lastUse := s.tick, flushAll := false, captureRequested := true, retry := false } ∧
     t.slot k = .requested i ∧ t.snap.exceptions = s.snap.exceptions ++ [i] ∧ t.issue = s.issue ++ [e] ∧
     t.dirty = s.dirty ∧ t.clean = rest ∧ ∀ f, f ≠ e → t.entry f = s.entry f) ∧
  (∀ (s : State) (w : WinNo) (i : Nat) (o : Operation) (id : UpId) (link : Nat) (e : EntryNo) (x : Entry) (k : SlotNo),
     s.lookup w i = some e → s.entry e = some x → x.window = w → x.index = i → s.earlyCapture w i o.kind = true →
     k ≠ 16 → s.slot k = .free → (∀ j < k, s.slot j ≠ .free) →
     let t := s.accept w i o id link
     let queued : Entry :=
       { x with
         waiters := x.waiters ++ [.capture k, .op o id link]
         lastUse := s.tick
         dirtySince := some (x.dirtySince.getD s.tick)
         captureRequested := true }
     t.snap.exceptions = s.snap.exceptions ++ [i] ∧
     (∀ d m, x.body = .accum d m → t.entry e = some { queued with body := .fetch d m .resolve } ∧
       t.issue = s.issue ++ [e] ∧ t.dirty = s.dirty.filter (fun f => decide (f ≠ e)) ∧ t.slot k = .requested i) ∧
     (∀ d m q, x.body = .fetch d m q → t.entry e = some queued ∧ t.issue = s.issue ∧ t.dirty = s.dirty ∧
       t.slot k = .requested i) ∧
     ∀ v m, x.body = .held v m ∨ x.body = .write v m →
       t.slot k = .captured i v ∧ t.snap.writeOrder = s.snap.writeOrder ++ [k] ∧
       ∃ y, t.entry e = some y ∧
         y.body.liveValue = some (applyValue (s.config w) o (if s.clearing = true then 0 else v)))

/-- SNAPSHOT_ABORT (R141): from RUNNING, the untaken captures are withdrawn, REQUESTED slots are FREE, the exception
list is empty and the engine aborts, ending at once where every slot is FREE (R142); otherwise it is refused. -/
def Obligations.SnapshotAborts : Prop :=
  ∀ s : State, s.takesCommand = true →
    ((∀ l, s.snap.state ≠ .running l) →
      exec .snapshotAbort s = .next (finish s (s.counted.answered codeSnapshotAbort .wrongState []))) ∧
    ∀ l, s.snap.state = .running l →
      let u : State := { s.counted.withdrawCaptures with
        snap := { s.snap with
          state := .aborting .aborted
          exceptions := []
          slots := s.snap.slots.map Slot.withdrawn } }
      exec .snapshotAbort s = .next (finish s (u.endCheck.answered codeSnapshotAbort .ok []))

/-- SNAPSHOT_COMPLETE (R140): RUNNING, the cursor at f + n and every slot FREE, the engine is IDLE with last result
DONE and the snapshot-done flag set; otherwise nothing changes.

SNAPSHOT_END (R142): ABORTING with every slot FREE, the engine is IDLE with the ending result as its last result
and the snapshot-done flag set; otherwise nothing changes. That these two rows make again a check that the model makes
at its own happening, and otherwise change nothing, is assumptions 2 and 3.

SNAPSHOT_STATUS (R145, R146): the results are the 26 bytes of 10.6, the engine's state as it stands, and the
snapshot-done flag is cleared. -/
def Obligations.SnapshotEndsAndReports : Prop :=
  (∀ (s : State) (b : SnapJob), s.snap.job = some b →
     let due := (∃ l, s.snap.state = .running l) ∧ b.cursor = b.first + b.count ∧ ∀ k, s.slot k = .free
     (due → exec .snapshotComplete s =
       .next (finish s { s with snap := { s.snap with state := .idle, lastResult := .done, done := true } })) ∧
     (¬ due → exec .snapshotComplete s = .next (finish s s))) ∧
  (∀ s : State,
     (s.snap.state = .aborting .aborted → (∀ k, s.slot k = .free) → exec .snapshotEnd s =
       .next (finish s { s with snap := { s.snap with state := .idle, lastResult := .aborted, done := true } })) ∧
     (s.snap.state = .aborting .failed → (∀ k, s.slot k = .free) → exec .snapshotEnd s =
       .next (finish s { s with snap := { s.snap with state := .idle, lastResult := .failed, done := true } })) ∧
     ((∀ q, s.snap.state ≠ .aborting q) ∨ (∃ k, s.slot k ≠ .free) → exec .snapshotEnd s = .next (finish s s))) ∧
  (∀ s : State, s.takesCommand = true →
     let stateCode : Byte := match s.snap.state with
       | .idle => 0
       | .running _ => 1
       | .aborting _ => 2
     let resultCode : Byte := match s.snap.lastResult with
       | .none => 0
       | .done => 1
       | .aborted => 2
       | .failed => 3
     let presence : Nat := (if s.snap.job ≠ none then 1 else 0) + (if s.snap.failing ≠ none then 2 else 0) +
       (if s.snap.done = true then 4 else 0)
     let parameters : List Byte := match s.snap.job with
       | none => List.replicate 19 0
       | some b => [BitVec.ofNat 8 b.window.val] ++ bytesLE 4 b.first ++ bytesLE 4 b.count ++ bytesLE 5 b.dest.toNat ++
           [if b.mode = .copyClear then 1 else 0] ++ bytesLE 4 b.cursor
     let results := [stateCode, resultCode, BitVec.ofNat 8 presence] ++ parameters ++
       [BitVec.ofNat 8 s.snap.exceptions.length] ++ bytesLE 3 (s.snap.failing.getD 0)
     results.length = 26 ∧
     exec .snapshotStatus s = .next
       (State.answered { s.counted with snap := { s.snap with done := false } } codeSnapshotStatus .ok results))

/-- DESTINATION_WRITE_RETURN (R139): the tag and the slot are freed, the walk steps where the slot was the walk's, and
completion and end are judged. DESTINATION_WRITE_ERROR (R143): the tag and the slot are freed, the fault record is
handed the fault, and the snapshot fails at the slot's index.

The failing of a snapshot (R143, R144): from RUNNING as at an abort, its untaken captures withdrawn from their entries
(R84) and from their slots, with ending result FAILED and the failing index; an ABORTED ending turns to FAILED; a FAILED
one keeps its index. -/
def Obligations.DestinationWritesReturn : Prop :=
  (∀ (s : State) (g : Tag) (r : TagRecord) (k : SlotNo),
     s.tagAt g = some r → r.owner = .snap k → s.softInterval = false →
     let u := (s.setTag g none).setSlot k .free
     exec (.destinationWriteReturn g) s =
       .next (finish s (if k = 16 then u.walkStep else u).completionCheck.endCheck) ∧
     ∀ j v h b, s.slot k = .writing j v h → s.snap.job = some b →
       exec (.destinationWriteError g) s =
         .next (finish s ((u.handFault .snapWriteFailed b.window j).failSnapshot j).endCheck)) ∧
  (∀ (s : State) (i : Nat),
     (∀ l, s.snap.state = .running l → s.failSnapshot i = { s.withdrawCaptures with
       snap := { s.snap with
         state := .aborting .failed
         exceptions := []
         slots := s.snap.slots.map Slot.withdrawn
         failing := some i } } ∧ ∀ k, (s.failSnapshot i).slot k = match s.slot k with
           | .requested _ => .free
           | x => x) ∧
     (s.snap.state = .aborting .aborted →
       s.failSnapshot i = { s with snap := { s.snap with state := .aborting .failed, failing := some i } }) ∧
     (s.snap.state = .aborting .failed ∨ s.snap.state = .idle → s.failSnapshot i = s))

/-! ### Memory faults (chapter 8) -/

/-- FETCH_ERROR (R149, R151, R158): the tag is freed; the entry strands with its delta, mark, cause and stamps, its
READ and TAKE waiters are answered MEMFAULT with zero data, their dependents too (R55), and leave, a latch whose source
one of them is becomes EMPTY, no other record changes, and the window and the fault record follow.

WRITE_BACK_ERROR (R150, R151, R158): the tag is freed; the entry strands with its value, counts as dirty, and leaves
the FLUSH ALL carry set; the window and the fault record follow.

Where the stranding fails a RUNNING snapshot, the stranded entry loses its CAPTURE waiters and its mark with the others
(R84, R144). -/
def Obligations.ErrorsStrand : Prop :=
  ((∀ (s : State) (g : Tag) (r : TagRecord) (e : EntryNo),
     s.tagAt g = some r → r.owner = .table e → r.kind = .read → s.softInterval = false →
     exec (.fetchError g) s = .next (finish s ((s.setTag g none).fetchFailed e))) ∧
   ∀ (s : State) (e : EntryNo) (x : Entry) (d : Nat) (m : Bool) (q : FetchCause),
     s.entry e = some x → x.body = .fetch d m q →
     let y : Entry := { x with body := .strandedFetch d m q, waiters := x.waiters.filter (fun y => !answersLater y)
                               flushAll := false, retry := false }
     let failed : Record → Answer := fun r =>
       { status := .memfault, data := if r.kind = .read then List.replicate r.size 0 else [] }
     s.fetchFailed e =
       (((s.failWaiters x.waiters .memfault).setEntry e (some y)).enterFault x.window x.index).handFault
         .fetchFailed x.window x.index ∧
     (s.strandFails x.window → x.captureRequested = true → (s.fetchFailed e).entry e = some
       { y with waiters := y.waiters.filter (fun z => !isCapture z), captureRequested := false }) ∧
     (¬ s.strandFails x.window ∨ x.captureRequested = false → (s.fetchFailed e).entry e = some y) ∧
     y.waiters = x.waiters.filter (fun z => match z with
       | .op o _ _ => decide (o.kind ≠ .read ∧ o.kind ≠ .take)
       | .capture _ => true) ∧
     (∀ id, List.Forall₂ (fun r r' : Record =>
         (r.answer = none → (∃ k, answersAt x.waiters id r k) → r' = { r with answer := some (failed r) }) ∧
         (r.answer ≠ none ∨ (∀ k, ¬ answersAt x.waiters id r k) → r' = r))
       (s.list id).records ((s.fetchFailed e).list id).records) ∧
     ∀ id w i j src, s.latch id = .pending w i j src →
       let reported := ∃ (k : Nat) (o : Operation), x.waiters[k]? = some (Waiter.op o id src) ∧
         (o.kind = .read ∨ o.kind = .take)
       (reported → (s.fetchFailed e).latch id = .empty) ∧ (¬ reported → (s.fetchFailed e).latch id = s.latch id)) ∧
  ((∀ (s : State) (g : Tag) (r : TagRecord) (e : EntryNo),
     s.tagAt g = some r → r.owner = .table e → r.kind = .write → s.softInterval = false →
     exec (.writeBackError g) s = .next (finish s ((s.setTag g none).writeFailed e))) ∧
   ∀ (s : State) (e : EntryNo) (x : Entry) (v : Nat) (r : Bool),
     s.entry e = some x → x.body = .write v r →
     let y : Entry := { x with body := .strandedWrite v, dirtySince := some (x.dirtySince.getD s.tick)
                               flushAll := false, retry := false }
     let u : State := { s.setEntry e (some y) with carry := s.carry.filter (fun f => decide (f ≠ e)) }
     s.writeFailed e = (u.enterFault x.window x.index).handFault .writeFailed x.window x.index ∧
     (s.strandFails x.window → x.captureRequested = true → (s.writeFailed e).entry e = some
       { y with waiters := y.waiters.filter (fun z => !isCapture z), captureRequested := false }) ∧
     (¬ s.strandFails x.window ∨ x.captureRequested = false → (s.writeFailed e).entry e = some y))

/-- A stranding puts an ACTIVE or DRAINING window in FAULT with that state to resume, and leaves a window in FAULT as it
is (R37); the fault record takes the first fault and counts further ones up to 255 (R154).

A stranding that takes its window into FAULT fails the snapshot on that window at the stranded index (R37, R144, R151):
RUNNING, its untaken captures are withdrawn and its exception list emptied; ABORTING towards ABORTED, it turns to
FAILED; ABORTING towards FAILED, it keeps its index; and it ends at once where every slot is FREE (R142). The snapshot
of another window is left alone.

FAULT_READ (R155): the record as it stands is the result, and the record is emptied. -/
def Obligations.FaultRecordKept : Prop :=
  ((∀ (s : State) (w : WinNo) (i : Nat),
     ((s.window w).state = .active → ((s.enterFault w i).window w) =
       { state := .fault .active, config := (s.window w).config }) ∧
     ((s.window w).state = .draining → ((s.enterFault w i).window w) =
       { state := .fault .draining, config := (s.window w).config }) ∧
     (∀ q, (s.window w).state = .fault q → s.enterFault w i = s)) ∧
   (∀ (s : State) (w : WinNo) (i : Nat), (s.window w).state = .active ∨ (s.window w).state = .draining →
     let t := s.enterFault w i
     let ends := ((∀ k, t.slot k = .free) → t.snap.state = .idle ∧ t.snap.lastResult = .failed ∧ t.snap.done = true) ∧
       ((∃ k, t.slot k ≠ .free) → t.snap.state = .aborting .failed ∧ t.snap.lastResult = s.snap.lastResult ∧
         t.snap.done = s.snap.done)
     (∀ v, v ≠ w → t.window v = s.window v) ∧ t.snap.job = s.snap.job ∧ t.snap.writeOrder = s.snap.writeOrder ∧
     ((∀ b, s.snap.job = some b → b.window ≠ w) ∨ s.snap.state = .idle →
       t.snap = s.snap ∧ t.entries = s.entries) ∧
     ∀ b, s.snap.job = some b → b.window = w →
       (∀ l, s.snap.state = .running l → t.entries = s.withdrawCaptures.entries ∧
         (∀ k, t.slot k = match s.slot k with
           | .requested _ => .free
           | x => x) ∧
         t.snap.exceptions = [] ∧ t.snap.failing = some i ∧ ends) ∧
       (s.snap.state = .aborting .aborted → t.entries = s.entries ∧ (∀ k, t.slot k = s.slot k) ∧
         t.snap.exceptions = s.snap.exceptions ∧ t.snap.failing = some i ∧ ends) ∧
       (s.snap.state = .aborting .failed → t.entries = s.entries ∧ (∀ k, t.slot k = s.slot k) ∧
         t.snap.exceptions = s.snap.exceptions ∧ t.snap.failing = s.snap.failing ∧ ends)) ∧
   ∀ (s : State) (k : FaultKind) (w : WinNo) (i : Nat),
     (s.faults.first = none → (s.handFault k w i).faults =
       { first := some { kind := k, window := w, index := i }, further := 0 }) ∧
     (∀ f, s.faults.first = some f → (s.handFault k w i).faults =
       { first := some f, further := if s.faults.further + 1 ≤ 255 then s.faults.further + 1 else 255 })) ∧
  (∀ s : State, s.takesCommand = true →
     exec .faultRead s = .next (State.answered { s.counted with faults := { first := none, further := 0 } }
       codeFaultRead .ok (match s.faults.first with
         | some f => [(match f.kind with
             | .fetchFailed => 1
             | .writeFailed => 2
             | .snapWriteFailed => 3), BitVec.ofNat 8 f.window.val] ++ bytesLE 3 f.index ++
             [BitVec.ofNat 8 s.faults.further]
         | none => [0, 0, 0, 0, 0, BitVec.ofNat 8 s.faults.further])))

/-- RETRY (R156): in FAULT, every STRANDED entry of the window re-enters its failed operation in ascending order, and
the result is their number; otherwise it is refused, without results (assumption 14).

One entry's re-entry (R156): to FETCH or WRITE, by its failed operation, with the retry mark set, at the tail of
the issue queue. -/
def Obligations.RetryReenters : Prop :=
  (∀ (s : State) (w : WinNo), s.takesCommand = true →
     let c := BitVec.ofNat 8 w.val
     let es := (List.finRange 256).filter (fun e => belongsTo w (s.entry e) && isStranded (s.entry e))
     ((∀ q, (s.window w).state ≠ .fault q) →
       exec (.retry c) s = .next (finish s (s.counted.answered codeRetry .wrongState []))) ∧
     (∀ q, (s.window w).state = .fault q →
       exec (.retry c) s = .next (finish s ((es.foldl State.reenter s.counted).answered codeRetry .ok
         (bytesLE 2 es.length))))) ∧
  (∀ (s : State) (e : EntryNo) (x : Entry), s.entry e = some x →
     (∀ d m q, x.body = .strandedFetch d m q →
       s.reenter e = { s.setEntry e (some { x with body := .fetch d m q, retry := true }) with
         issue := s.issue ++ [e] }) ∧
     (∀ v, x.body = .strandedWrite v →
       s.reenter e = { s.setEntry e (some { x with body := .write v false, retry := true }) with
         issue := s.issue ++ [e] }))

/-- DISCARD (R159, R38): its checks in order; where they pass every STRANDED entry of the window goes FREE, the window
leaves FAULT for its resume state, and the results are the entries and the waiter records dropped. That a refused
DISCARD has no results is the model's reading (assumption 14). -/
def Obligations.DiscardFrees : Prop :=
  ∀ (s : State) (w : WinNo), s.takesCommand = true →
    let c := BitVec.ofNat 8 w.val
    let es := (List.finRange 256).filter (fun e => belongsTo w (s.entry e) && isStranded (s.entry e))
    ((∀ q, (s.window w).state ≠ .fault q) →
      exec (.discard c) s = .next (finish s (s.counted.answered codeDiscard .wrongState []))) ∧
    (∀ q, (s.window w).state = .fault q → (∃ e x, s.entry e = some x ∧ x.window = w ∧ x.retry = true) →
      exec (.discard c) s = .next (finish s (s.counted.answered codeDiscard .conflict []))) ∧
    (∀ q, (s.window w).state = .fault q → (∀ e x, s.entry e = some x → x.window = w → x.retry = false) →
      let u := (s.counted.freeEntries es).setWinState w (match q with
        | .active => .active
        | .draining => .draining)
      let v := match q with
        | .active => u
        | .draining => u.drainStart w
      exec (.discard c) s = .next (finish s (v.answered codeDiscard .ok
        (bytesLE 2 es.length ++ bytesLE 1 ((es.map (fun e => waitersOf (s.entry e))).sum)))))

/-! ### Alerts and the interrupt line (chapter 9) -/

/-- Raising an alert (R163, R164): it takes the counter's value as its number, the counter advances modulo 2^16, and it
joins the queue's tail where that holds fewer than 32 records; otherwise it is dropped.

ALERT_POP (R165): the head record is removed and is the result; an empty queue stays empty. -/
def Obligations.AlertsQueuedAndPopped : Prop :=
  (∀ (s : State) (w : WinNo) (i : Nat) (k : AlertKind),
     s.raiseOne w i k =
       { s with
         alertSeq := s.alertSeq + 1
         alerts := if s.alerts.length < 32 then s.alerts ++ [{ kind := k, window := w, index := i, seq := s.alertSeq }]
           else s.alerts }) ∧
  (∀ s : State, s.takesCommand = true →
     (∀ a rest, s.alerts = a :: rest → exec .alertPop s = .next
       (State.answered { s.counted with alerts := rest } codeAlertPop .ok
         ([1, (match a.kind with
             | .level => 1
             | .wrapped => 2
             | .saturated => 3), BitVec.ofNat 8 a.window.val] ++ bytesLE 2 a.seq.toNat ++ bytesLE 3 a.index ++
           [BitVec.ofNat 8 rest.length] ++ bytesLE 2 s.alertSeq.toNat))) ∧
     (s.alerts = [] → exec .alertPop s = .next
       (s.counted.answered codeAlertPop .ok ([0, 0, 0, 0, 0, 0, 0, 0, 0] ++ bytesLE 2 s.alertSeq.toNat))))

/-- IRQ_N is low exactly while a source holds whose enable is set (R166, R167). -/
def Obligations.IrqLowByEnabledSource : Prop :=
  ∀ s : State, s.irqLow = true ↔
    (s.alerts ≠ [] ∧ s.enables.getLsbD 0 = true) ∨ (s.faults.first ≠ none ∧ s.enables.getLsbD 1 = true) ∨
      (s.snap.done = true ∧ s.enables.getLsbD 2 = true) ∨ (s.flushAllDone = true ∧ s.enables.getLsbD 3 = true)

/-! ### The write-back engine and its parameters (chapter 5) -/

/-- TICK_ADVANCE (R94, R98, R104, R107): the tick count advances, the clock count restarts, the flush age last set is
in effect, and flushes start, in dirty-list order, on the aged head entries, on those of draining windows and on those
FLUSH ALL still wants. Under RST_N there is no clock (assumption 6); in the soft reset interval the flush age takes
effect and no flush starts (R110, assumption 18). That the row TICK_ADVANCE is a tick at whatever clock count is the
model's choice (assumption 8).

A flush (R96): gathered work is fetched with cause FLUSH, a dirty value is written, and the entry leaves the dirty
list for the tail of the issue queue; nothing else changes.

The age check (R98): out of the soft reset interval and with a flush age in effect, flushes start on the heads of the
dirty list whose age has reached it, one after another. An entry's age is the tick count less its dirtySince, modulo
2^32 (R69).

Flushes started at one happening stand in the issue queue in dirty-list order, whatever started them, and every other
entry of the queue keeps its place (R96).

Under pressure (R100 to R102) every clean entry goes FREE and flushes start on the dirty list's head until the issue
queue holds two entries or the list is empty; without pressure, or in the soft reset interval, nothing is done. -/
def Obligations.FlushesStart : Prop :=
  (∀ s : State,
     (s.rstAsserted = true → exec .tickAdvance s = .next s) ∧
     (s.rstAsserted = false → s.softInterval = true → exec .tickAdvance s = .next (finish s
       { s with tick := s.tick + 1, clock := 0, flushAgeInEffect := s.flushAge })) ∧
     (s.rstAsserted = false → s.softInterval = false →
       let u := { s with tick := s.tick + 1, clock := 0, flushAgeInEffect := s.flushAge }
       ∃ es, exec .tickAdvance s = .next (finish s (u.startFlushes es)) ∧ es.Sublist s.dirty ∧
         ∀ e ∈ s.dirty, (e ∈ es ↔
           (e ∈ s.dirty.takeWhile (fun f => decide (s.flushAge ≠ 0 ∧ s.flushAge ≤ u.age f)) ∨
             (∃ x, s.entry e = some x ∧ s.draining x.window = true) ∨
             (s.flushAllRunning = true ∧ ∃ x v, s.entry e = some x ∧ x.body = .held v true ∧ x.flushAll = true))))) ∧
  (∀ (s : State) (e : EntryNo) (x : Entry), s.entry e = some x →
     (∀ d m, x.body = .accum d m → s.startFlush e =
       { s.setEntry e (some { x with body := .fetch d m .flush }) with
         dirty := s.dirty.filter (fun f => decide (f ≠ e)), issue := s.issue ++ [e] }) ∧
     (∀ v, x.body = .held v true → s.startFlush e =
       { s.setEntry e (some { x with body := .write v false }) with
         dirty := s.dirty.filter (fun f => decide (f ≠ e)), issue := s.issue ++ [e] })) ∧
  (∀ s : State,
     (s.lowMark ≤ s.freeCount + s.clean.length ∨ s.softInterval = true → s.pressureAct = s) ∧
     (s.freeCount + s.clean.length < s.lowMark → s.softInterval = false →
       s.pressureAct = (s.freeEntries s.clean).startFlushes
         ((s.freeEntries s.clean).dirty.take (2 - (s.freeEntries s.clean).issue.length)))) ∧
  (∀ s : State,
     (s.softInterval = true ∨ s.flushAgeInEffect = 0 → s.ageCheck = s) ∧
     (s.softInterval = false → s.flushAgeInEffect ≠ 0 → s.ageCheck =
       s.startFlushes (s.dirty.takeWhile (fun e => decide (s.flushAgeInEffect ≤ s.age e)))) ∧
     ∀ e x d, s.entry e = some x → x.dirtySince = some d → s.age e = (s.tick - d).toNat) ∧
  (∀ a b : State, a.dirty.Nodup → b.issue.Nodup →
     let t := orderFlushes a b
     let flushed := fun e => e ∈ a.dirty ∧ e ∉ a.issue ∧ ∃ x, b.entry e = some x ∧
       ((∃ d m, x.body = .fetch d m .flush) ∨ ∃ v r, x.body = .write v r)
     t = { b with issue := t.issue } ∧ t.issue.Perm b.issue ∧
     (∃ started : List EntryNo, started.Sublist a.dirty ∧ started.Sublist t.issue ∧
       ∀ e, e ∈ started ↔ flushed e ∧ e ∈ b.issue) ∧
     ∀ (k : Nat) (e : EntryNo), b.issue[k]? = some e → ¬ flushed e → t.issue[k]? = some e)

/-- FLUSH_ALL (R106): refused CONFLICT while one is in progress; otherwise the flag is cleared, entries in ACCUM, dirty
HELD, FETCH and WRITE are marked, the redirtied entries that hold their tags are carried, and every dirty-list entry is
flushed.

FLUSH_ALL_COMPLETE (R108): in progress, with no mark and an empty carry set, FLUSH ALL is over and its flag set;
otherwise nothing changes. That this row makes again a check that the model makes at its own happening, and otherwise
changes nothing, is assumptions 2 and 3. -/
def Obligations.FlushAllRuns : Prop :=
  (∀ s : State, s.takesCommand = true →
     (s.flushAllRunning = true →
       exec .flushAll s = .next (finish s (s.counted.answered codeFlushAll .conflict []))) ∧
     (s.flushAllRunning = false → ∃ u : State,
       exec .flushAll s = .next (finish s ((u.startFlushes s.dirty).answered codeFlushAll .ok [])) ∧
       u = { s.counted with
         flushAllRunning := true, flushAllDone := false, entries := u.entries, carry := u.carry } ∧
       (∀ e, (s.entry e = none → u.entry e = none) ∧ ∀ x, s.entry e = some x →
         u.entry e = some { x with flushAll := x.flushAll ||
           (match x.body with
             | .accum _ _ | .fetch _ _ _ | .write _ _ => true
             | .held _ d => d
             | .strandedFetch _ _ _ | .strandedWrite _ => false) }) ∧
       ∀ e, e ∈ u.carry ↔ ∃ x v, s.entry e = some x ∧ x.body = .write v true ∧ (s.tagOf e).isSome = true)) ∧
  (∀ s : State,
     let due := s.flushAllRunning = true ∧ (∀ e x, s.entry e = some x → x.flushAll = false) ∧ s.carry = []
     (due → exec .flushAllComplete s = .next (finish s { s with flushAllRunning := false, flushAllDone := true })) ∧
     (¬ due → exec .flushAllComplete s = .next (finish s s)))

/-- The four PARAM SETs (R95, R98, R94, R166, R179): a value in range is stored, one out of range refused
BAD_ARGUMENT; setting the prescaler to a new value restarts the clock count, and to its present value changes
nothing. -/
def Obligations.ParametersSet : Prop :=
  ∀ (s : State) (v : BitVec 32), s.takesCommand = true →
    (v.toNat ≤ 128 → exec (.paramSetLowMark v) s =
      .next (finish s (State.answered { s.counted with lowMark := v.toNat } codeParamSet .ok []))) ∧
    (128 < v.toNat → exec (.paramSetLowMark v) s =
      .next (finish s (s.counted.answered codeParamSet .badArgument []))) ∧
    (v.toNat ≤ 65535 → exec (.paramSetFlushAge v) s =
      .next (State.answered { s.counted with flushAge := v.toNat } codeParamSet .ok [])) ∧
    (65535 < v.toNat → exec (.paramSetFlushAge v) s = .next (s.counted.answered codeParamSet .badArgument [])) ∧
    (1 ≤ v.toNat → v.toNat ≤ 65536 → v.toNat ≠ s.prescaler → exec (.paramSetPrescaler v) s =
      .next (State.answered { s.counted with prescaler := v.toNat, clock := 0 } codeParamSet .ok [])) ∧
    (1 ≤ v.toNat → v.toNat ≤ 65536 → v.toNat = s.prescaler → exec (.paramSetPrescaler v) s =
      .next (s.counted.answered codeParamSet .ok [])) ∧
    (v.toNat = 0 ∨ 65536 < v.toNat → exec (.paramSetPrescaler v) s =
      .next (s.counted.answered codeParamSet .badArgument [])) ∧
    (v.toNat ≤ 15 → exec (.paramSetEnables v) s =
      .next (State.answered { s.counted with enables := BitVec.ofNat 4 v.toNat } codeParamSet .ok [])) ∧
    (15 < v.toNat → exec (.paramSetEnables v) s = .next (s.counted.answered codeParamSet .badArgument []))

/-- The parameters stay in their ranges, and the clock count below the prescaler, through every step (R94, R95). -/
def Obligations.ParametersStayInRange : Prop :=
  ∀ s t : State, s.paramsInRange → step s = .next t → t.paramsInRange

/-- The bounded lists stay within their bounds through every step: 8 records an ID, 16 exceptions, 32 alerts, 255
further faults (R49, R128, R154, R164). That record keys stay fresh is the model's own (assumption 16). -/
def Obligations.BoundsKept : Prop :=
  ∀ s t : State, s.withinBounds → step s = .next t → t.withinBounds

/-- The part right after reset meets the six invariants whose step statements stand here: parameters in range, windows
disjoint, reservations covered, bounds kept, the table consistent, and clean entries in agreement with any memory. -/
def Obligations.ResetMeetsInvariants : Prop :=
  State.reset.paramsInRange ∧ State.reset.windowsDisjoint ∧ State.reset.reservesCovered ∧
    State.reset.withinBounds ∧ State.reset.tableConsistent ∧ ∀ mem, State.reset.cleanAgrees mem

/-! ### The management port (chapter 10) -/

/-- FRAME_START (R172): the fall of MSEL_N captures the port state, the held response and the count; with a frame in
progress there is no fall.

Frames that carry no command taken (R172): fewer than three bytes, NOP, and a frame begun while the engine was
EXECUTING end with nothing changed but the frame.

A FRAME_START with a frame in progress and a command's row with no frame cannot fall; that they change nothing but end
the frame is the model's choice (assumption 3), and so is the field received, which stays empty, since a frame's bytes
come with the row that ends it (assumption 13).

A command whose form fails (R174) is answered BAD_ARGUMENT with its code and no results. A frame begun in the hard
reset (R185) or while EXECUTING (R172) takes no command: the row of every command then only ends the frame.

The status codes of the response frame and the command codes are those of 10.6 and 10.3. -/
def Obligations.FramesStartAndEnd : Prop :=
  (∀ s : State,
     (∀ f, s.frame = some f → exec .frameStart s = .next s) ∧
     (s.frame = none → exec .frameStart s = .next { s with
       frame := some { captured := s.capture, received := [], live := !s.rstAsserted } }) ∧
     (s.engine = .idle → s.capture.bytes = [0, s.takenCount, 0, 0, 0, 0]) ∧
     (∀ r, s.engine = .responseReady r → s.capture.bytes =
       [2, s.takenCount, r.code, (match r.status with
         | .ok => 0
         | .busy => 1
         | .badArgument => 2
         | .wrongState => 3
         | .overlap => 4
         | .conflict => 5)] ++ bytesLE 2 r.results.length ++ r.results) ∧
     (s.engine = .executing .waitTags → s.capture.bytes =
       [1, s.takenCount, codeSoftReset, 1, 2, 0, 1, BitVec.ofNat 8 (32 - s.freeTags)]) ∧
     (s.engine = .executing .waitDelivery → s.capture.bytes =
       [1, s.takenCount, codeSoftReset, 1, 2, 0, 2, BitVec.ofNat 8 s.owed])) ∧
  (∀ (s : State) (bytes : List Byte),
     exec (.frameWithoutCommand bytes) s = .next { s with frame := none } ∧
     exec .nop s = .next { s with frame := none } ∧
     (∀ f, s.frame = some f → f.captured.portState = .executing →
       exec (.frameBusy bytes) s = .next { s with frame := none })) ∧
  (∀ (s : State) (code : Byte) (rest : List Byte),
     (s.takesCommand = true → exec (.unassignedCommand (code :: rest)) s =
       .next (s.counted.answered code .badArgument [])) ∧
     (s.takesCommand = false → exec (.unassignedCommand (code :: rest)) s = .next { s with frame := none })) ∧
  (∀ s : State, (s.takesCommand = true ↔
     ∃ f, s.frame = some f ∧ f.live = true ∧ f.captured.portState ≠ .executing)) ∧
  (∀ s : State, s.takesCommand = false →
     let dropped : State := { s with frame := none }
     (exec .mgmtStatus s = .next dropped ∧ (∀ r, exec (.entryRead r) s = .next dropped) ∧
       (∀ q, exec (.paramGet q) s = .next dropped) ∧ (∀ v, exec (.paramSetFlushAge v) s = .next dropped) ∧
       (∀ v, exec (.paramSetPrescaler v) s = .next dropped) ∧ (∀ v, exec (.paramSetEnables v) s = .next dropped) ∧
       (∀ w, exec (.windowStatus w) s = .next dropped) ∧ exec .snapshotStatus s = .next dropped ∧
       exec .faultRead s = .next dropped ∧ exec .alertPop s = .next dropped) ∧
     ((∀ a, exec (.windowLoad a) s = .next (finish s dropped)) ∧
       (∀ w, exec (.windowArm w) s = .next (finish s dropped)) ∧
       (∀ w, exec (.windowDrain w) s = .next (finish s dropped)) ∧
       (∀ w, exec (.windowRelease w) s = .next (finish s dropped)) ∧
       (∀ a, exec (.snapshotStart a) s = .next (finish s dropped)) ∧
       exec .snapshotAbort s = .next (finish s dropped) ∧ (∀ w, exec (.retry w) s = .next (finish s dropped)) ∧
       (∀ w, exec (.discard w) s = .next (finish s dropped)) ∧ exec .flushAll s = .next (finish s dropped) ∧
       (∀ v, exec (.paramSetLowMark v) s = .next (finish s dropped)) ∧
       exec .softReset s = .next (finish s dropped))) ∧
  (codeNop = 0x00 ∧ codeMgmtStatus = 0x01 ∧ codeParamSet = 0x02 ∧ codeParamGet = 0x03 ∧ codeSoftReset = 0x04 ∧
    codeWindowLoad = 0x10 ∧ codeWindowArm = 0x11 ∧ codeWindowDrain = 0x12 ∧ codeWindowRelease = 0x13 ∧
    codeWindowStatus = 0x14 ∧ codeSnapshotStart = 0x20 ∧ codeSnapshotAbort = 0x21 ∧ codeSnapshotStatus = 0x22 ∧
    codeAlertPop = 0x30 ∧ codeFaultRead = 0x38 ∧ codeRetry = 0x39 ∧ codeDiscard = 0x3A ∧ codeFlushAll = 0x40 ∧
    codeEntryRead = 0x48)

/-- PARAM_GET and MGMT_STATUS (R179, R180): the parameter's value in four bytes; the thirteen status bytes of 10.6 as
they stand before the flush-all-done flag is cleared.

ENTRY_READ (R181): by number, the entry's 35 bytes of 10.6, zero but for number, state and tag where it is FREE; by
counter, the entry of the lookup, and NONE where there is none, whose entry number and tag byte are the model's reading
(assumption 15); a window above 15 is refused, without results (assumption 14). -/
def Obligations.StatusReported : Prop :=
  (∀ s : State, s.takesCommand = true →
     exec (.paramGet .lowMark) s = .next (s.counted.answered codeParamGet .ok (bytesLE 4 s.lowMark)) ∧
     exec (.paramGet .flushAge) s = .next (s.counted.answered codeParamGet .ok (bytesLE 4 s.flushAge)) ∧
     exec (.paramGet .prescaler) s = .next (s.counted.answered codeParamGet .ok (bytesLE 4 s.prescaler)) ∧
     exec (.paramGet .enables) s = .next (s.counted.answered codeParamGet .ok (bytesLE 4 s.enables.toNat)) ∧
     ∃ res, exec .mgmtStatus s =
         .next (State.answered { s.counted with flushAllDone := false } codeMgmtStatus .ok res) ∧
       res = bytesLE 2 s.freeCount ++ bytesLE 2 s.clean.length ++ bytesLE 2 s.dirty.length ++
         bytesLE 2 s.issue.length ++
         [(match s.hold with
           | none => 0
           | some h => match h.reason with
             | .arming => 1
             | .noEntry => 2
             | .noExceptionPlace => 3
             | .noCaptureSlot => 4
             | .noWaiter => 5), BitVec.ofNat 8 s.freeTags, BitVec.ofNat 8 s.alerts.length,
           BitVec.ofNat 8 ((if s.alerts ≠ [] then 1 else 0) + (if s.faults.first ≠ none then 2 else 0) +
             (if s.snap.done = true then 4 else 0) + (if s.flushAllDone = true then 8 else 0) +
             (if s.irqLow = true then 16 else 0) + (if s.flushAllRunning = true then 32 else 0)), s.softCount]) ∧
  (∀ s : State, s.takesCommand = true →
     let tagHeld : EntryNo → Byte := fun e => match s.tagOf e with
       | some g => BitVec.ofNat 8 g.val
       | none => 0xFF
     let shown : EntryNo → List Byte := fun e => match s.entry e with
       | none => [BitVec.ofNat 8 e.val, 0] ++ List.replicate 23 0 ++ [tagHeld e] ++ List.replicate 9 0
       | some x =>
         let stateCode : Byte := match x.body with
           | .accum _ _ => 1
           | .fetch _ _ _ => 2
           | .held _ _ => 3
           | .write _ _ => 4
           | .strandedFetch _ _ _ | .strandedWrite _ => 5
         let work : Nat := match x.body with
           | .held _ true => 1
           | .write _ true => 2
           | .accum _ true | .fetch _ true _ | .strandedFetch _ true _ => 4
           | _ => 0
         let marks : Nat := work + (if x.flushAll = true then 8 else 0) +
           (if x.captureRequested = true then 16 else 0) + (if x.retry = true then 32 else 0)
         let cause : Nat := match x.body with
           | .fetch _ _ .resolve | .strandedFetch _ _ .resolve => 1
           | .fetch _ _ .flush | .strandedFetch _ _ .flush => 2
           | _ => 0
         let failed : Nat := match x.body, x.retry with
           | .strandedFetch _ _ _, _ | .fetch _ _ _, true => 1
           | .strandedWrite _, _ | .write _ _, true => 2
           | _, _ => 0
         let value : Nat := match x.body with
           | .accum d _ | .fetch d _ _ | .strandedFetch d _ _ => d
           | .held v _ | .write v _ | .strandedWrite v => v
         let present : Nat := (match x.body with
           | .accum _ _ | .fetch _ _ _ | .strandedFetch _ _ _ => 1
           | .held _ _ | .write _ _ | .strandedWrite _ => 2) + (if x.dirtySince ≠ none then 4 else 0) + 8
         [BitVec.ofNat 8 e.val, stateCode, BitVec.ofNat 8 marks, BitVec.ofNat 8 (cause + 16 * failed),
           BitVec.ofNat 8 x.window.val] ++ bytesLE 3 x.index ++ bytesLE 16 value ++
         [BitVec.ofNat 8 x.waiters.length, tagHeld e] ++ bytesLE 4 (x.dirtySince.getD 0).toNat ++
         bytesLE 4 x.lastUse.toNat ++ [BitVec.ofNat 8 present]
     (∀ e, (shown e).length = 35) ∧
     (∀ n : BitVec 8, exec (.entryRead (.byNumber n)) s =
       .next (s.counted.answered codeEntryRead .ok (shown ⟨n.toNat, n.isLt⟩))) ∧
     (∀ (w : BitVec 8) (i : BitVec 24), 15 < w.toNat → exec (.entryRead (.byCounter w i)) s =
       .next (s.counted.answered codeEntryRead .badArgument [])) ∧
     (∀ (w : WinNo) (i : BitVec 24) (e : EntryNo), s.lookup w i.toNat = some e →
       exec (.entryRead (.byCounter (BitVec.ofNat 8 w.val) i)) s =
         .next (s.counted.answered codeEntryRead .ok (shown e))) ∧
     (∀ (w : WinNo) (i : BitVec 24), s.lookup w i.toNat = none →
       exec (.entryRead (.byCounter (BitVec.ofNat 8 w.val) i)) s =
         .next (s.counted.answered codeEntryRead .ok
           ([0, 7] ++ List.replicate 23 0 ++ [0xFF] ++ List.replicate 9 0))))

/-- The frame of a management command reads back as the command, with every argument at every value (10.6).

Bytes clocked out most significant bit first are the bytes sampled, and bits after the last whole byte are ignored
(R171). -/
def Obligations.FramesReadBack : Prop :=
  (∀ (i : Instr) (bytes : List Byte), encodeFrame i = some bytes → parseFrame bytes = i) ∧
  (∀ (bytes : List Byte) (extra : List Bool), extra.length < 8 →
     mdiBytes (bytes.flatMap bitsOfByte ++ extra) = bytes)
end

