-- ==== Sys2Proof/Laws/State.lean ====
section
/-!
SUPPORT. The small lemmas of the state's accessors: reading one window, entry, list, latch, tag or slot after
writing one, and the fields each writer leaves alone.
-/

namespace Sys2Proof.Machine

/-! ### Windows -/

@[simp] theorem State.window_setWindow_same (s : State) (w : WinNo) (x : Window) :
    (s.setWindow w x).window w = x := by
  simp [State.window, State.setWindow]

theorem State.window_setWindow (s : State) (w v : WinNo) (x : Window) :
    (s.setWindow w x).window v = if w = v then x else s.window v := by
  simp only [State.window, State.setWindow, Fin.getElem_fin, Vector.getElem_set, Fin.val_inj]

@[simp] theorem State.entry_setWindow (s : State) (w : WinNo) (x : Window) (e : EntryNo) :
    (s.setWindow w x).entry e = s.entry e := rfl
@[simp] theorem State.list_setWindow (s : State) (w : WinNo) (x : Window) (id : UpId) :
    (s.setWindow w x).list id = s.list id := rfl
@[simp] theorem State.latch_setWindow (s : State) (w : WinNo) (x : Window) (id : UpId) :
    (s.setWindow w x).latch id = s.latch id := rfl
@[simp] theorem State.tagAt_setWindow (s : State) (w : WinNo) (x : Window) (t : Tag) :
    (s.setWindow w x).tagAt t = s.tagAt t := rfl
@[simp] theorem State.slot_setWindow (s : State) (w : WinNo) (x : Window) (k : SlotNo) :
    (s.setWindow w x).slot k = s.slot k := rfl

@[simp] theorem State.window_setWinState_same (s : State) (w : WinNo) (x : WinState) :
    (s.setWinState w x).window w = { state := x, config := (s.window w).config } := by
  simp [State.setWinState]

theorem State.window_setWinState (s : State) (w v : WinNo) (x : WinState) :
    (s.setWinState w x).window v =
      if w = v then { state := x, config := (s.window w).config } else s.window v := by
  simp only [State.setWinState, State.window_setWindow]

@[simp] theorem State.config_setWinState (s : State) (w v : WinNo) (x : WinState) :
    (s.setWinState w x).config v = s.config v := by
  simp only [State.config, State.window_setWinState]
  split
  · subst_vars; rfl
  · rfl

@[simp] theorem State.entry_setWinState (s : State) (w : WinNo) (x : WinState) (e : EntryNo) :
    (s.setWinState w x).entry e = s.entry e := rfl
@[simp] theorem State.list_setWinState (s : State) (w : WinNo) (x : WinState) (id : UpId) :
    (s.setWinState w x).list id = s.list id := rfl
@[simp] theorem State.tagAt_setWinState (s : State) (w : WinNo) (x : WinState) (t : Tag) :
    (s.setWinState w x).tagAt t = s.tagAt t := rfl

/-! ### Entries -/

@[simp] theorem State.entry_setEntry_same (s : State) (e : EntryNo) (x : Option Entry) :
    (s.setEntry e x).entry e = x := by
  simp [State.entry, State.setEntry]

theorem State.entry_setEntry (s : State) (e f : EntryNo) (x : Option Entry) :
    (s.setEntry e x).entry f = if e = f then x else s.entry f := by
  simp only [State.entry, State.setEntry, Fin.getElem_fin, Vector.getElem_set, Fin.val_inj]

theorem State.entry_setEntry_ne (s : State) {e f : EntryNo} (h : e ≠ f) (x : Option Entry) :
    (s.setEntry e x).entry f = s.entry f := by
  rw [State.entry_setEntry, if_neg h]

@[simp] theorem State.window_setEntry (s : State) (e : EntryNo) (x : Option Entry) (w : WinNo) :
    (s.setEntry e x).window w = s.window w := rfl
@[simp] theorem State.config_setEntry (s : State) (e : EntryNo) (x : Option Entry) (w : WinNo) :
    (s.setEntry e x).config w = s.config w := rfl
@[simp] theorem State.list_setEntry (s : State) (e : EntryNo) (x : Option Entry) (id : UpId) :
    (s.setEntry e x).list id = s.list id := rfl
@[simp] theorem State.latch_setEntry (s : State) (e : EntryNo) (x : Option Entry) (id : UpId) :
    (s.setEntry e x).latch id = s.latch id := rfl
@[simp] theorem State.tagAt_setEntry (s : State) (e : EntryNo) (x : Option Entry) (t : Tag) :
    (s.setEntry e x).tagAt t = s.tagAt t := rfl
@[simp] theorem State.slot_setEntry (s : State) (e : EntryNo) (x : Option Entry) (k : SlotNo) :
    (s.setEntry e x).slot k = s.slot k := rfl

/-! ### Response order lists and latches -/

@[simp] theorem State.list_setList_same (s : State) (id : UpId) (x : OrderList) :
    (s.setList id x).list id = x := by
  simp [State.list, State.setList]

theorem State.list_setList (s : State) (i j : UpId) (x : OrderList) :
    (s.setList i x).list j = if i = j then x else s.list j := by
  simp only [State.list, State.setList, Fin.getElem_fin, Vector.getElem_set, Fin.val_inj]

@[simp] theorem State.latch_setLatch_same (s : State) (id : UpId) (x : Latch) :
    (s.setLatch id x).latch id = x := by
  simp [State.latch, State.setLatch]

theorem State.latch_setLatch (s : State) (i j : UpId) (x : Latch) :
    (s.setLatch i x).latch j = if i = j then x else s.latch j := by
  simp only [State.latch, State.setLatch, Fin.getElem_fin, Vector.getElem_set, Fin.val_inj]

@[simp] theorem State.list_setLatch (s : State) (i j : UpId) (x : Latch) : (s.setLatch i x).list j = s.list j := rfl
@[simp] theorem State.latch_setList (s : State) (i j : UpId) (x : OrderList) :
    (s.setList i x).latch j = s.latch j := rfl
@[simp] theorem State.window_setList (s : State) (id : UpId) (x : OrderList) (w : WinNo) :
    (s.setList id x).window w = s.window w := rfl
@[simp] theorem State.entry_setList (s : State) (id : UpId) (x : OrderList) (e : EntryNo) :
    (s.setList id x).entry e = s.entry e := rfl
@[simp] theorem State.tagAt_setList (s : State) (id : UpId) (x : OrderList) (t : Tag) :
    (s.setList id x).tagAt t = s.tagAt t := rfl
@[simp] theorem State.slot_setList (s : State) (id : UpId) (x : OrderList) (k : SlotNo) :
    (s.setList id x).slot k = s.slot k := rfl
@[simp] theorem State.window_setLatch (s : State) (id : UpId) (x : Latch) (w : WinNo) :
    (s.setLatch id x).window w = s.window w := rfl
@[simp] theorem State.entry_setLatch (s : State) (id : UpId) (x : Latch) (e : EntryNo) :
    (s.setLatch id x).entry e = s.entry e := rfl

/-! ### Tags and capture slots -/

@[simp] theorem State.tagAt_setTag_same (s : State) (t : Tag) (x : Option TagRecord) :
    (s.setTag t x).tagAt t = x := by
  simp [State.tagAt, State.setTag]

theorem State.tagAt_setTag (s : State) (t u : Tag) (x : Option TagRecord) :
    (s.setTag t x).tagAt u = if t = u then x else s.tagAt u := by
  simp only [State.tagAt, State.setTag, Fin.getElem_fin, Vector.getElem_set, Fin.val_inj]

@[simp] theorem State.slot_setSlot_same (s : State) (k : SlotNo) (x : Slot) : (s.setSlot k x).slot k = x := by
  simp [State.slot, State.setSlot]

theorem State.slot_setSlot (s : State) (k j : SlotNo) (x : Slot) :
    (s.setSlot k x).slot j = if k = j then x else s.slot j := by
  simp only [State.slot, State.setSlot, Fin.getElem_fin, Vector.getElem_set, Fin.val_inj]

@[simp] theorem State.window_setTag (s : State) (t : Tag) (x : Option TagRecord) (w : WinNo) :
    (s.setTag t x).window w = s.window w := rfl
@[simp] theorem State.entry_setTag (s : State) (t : Tag) (x : Option TagRecord) (e : EntryNo) :
    (s.setTag t x).entry e = s.entry e := rfl
@[simp] theorem State.list_setTag (s : State) (t : Tag) (x : Option TagRecord) (id : UpId) :
    (s.setTag t x).list id = s.list id := rfl
@[simp] theorem State.slot_setTag (s : State) (t : Tag) (x : Option TagRecord) (k : SlotNo) :
    (s.setTag t x).slot k = s.slot k := rfl
@[simp] theorem State.window_setSlot (s : State) (k : SlotNo) (x : Slot) (w : WinNo) :
    (s.setSlot k x).window w = s.window w := rfl
@[simp] theorem State.entry_setSlot (s : State) (k : SlotNo) (x : Slot) (e : EntryNo) :
    (s.setSlot k x).entry e = s.entry e := rfl
@[simp] theorem State.list_setSlot (s : State) (k : SlotNo) (x : Slot) (id : UpId) :
    (s.setSlot k x).list id = s.list id := rfl
@[simp] theorem State.tagAt_setSlot (s : State) (k : SlotNo) (x : Slot) (t : Tag) :
    (s.setSlot k x).tagAt t = s.tagAt t := rfl

end Sys2Proof.Machine
end

