-- ==== Sys2Proof/Laws/Frame.lean ====
section
/-!
SUPPORT. What the table's, the walk's, the hold slot's and the flushes' operations leave alone: `State.fixed` collects
the fields that none of them writes, and each operation keeps it.
-/

namespace Sys2Proof.Machine

/-- The fields no operation of the table, the walk, the hold slot or a flush writes. -/
def State.fixed (s : State) :=
  (s.pending, s.channel, s.rstAsserted, s.windows, s.respPtr, s.presented, s.tick, s.clock, s.lowMark, s.flushAge,
    s.flushAgeInEffect, s.prescaler, s.flushAllRunning, s.flushAllDone, s.tags, s.arbPtr, s.secondGrant, s.downReq,
    s.faults, s.enables, s.engine, s.takenCount, s.softCount, s.frame)

/-- A fold keeps what each of its steps keeps. -/
theorem foldl_keeps {α β : Type} {γ : Type} (p : α → γ) (f : α → β → α) (h : ∀ a b, p (f a b) = p a)
    (l : List β) (a : α) : p (l.foldl f a) = p a := by
  induction l generalizing a with
  | nil => rfl
  | cons b bs ih => rw [List.foldl_cons, ih, h]


@[simp] theorem State.setEntry_fixed (s : State) (e : EntryNo) (x : Option Entry) :
    (s.setEntry e x).fixed = s.fixed := rfl

@[simp] theorem State.setList_fixed (s : State) (i : UpId) (x : OrderList) :
    (s.setList i x).fixed = s.fixed := rfl

@[simp] theorem State.setLatch_fixed (s : State) (i : UpId) (x : Latch) :
    (s.setLatch i x).fixed = s.fixed := rfl

@[simp] theorem State.setSlot_fixed (s : State) (k : SlotNo) (x : Slot) :
    (s.setSlot k x).fixed = s.fixed := rfl

@[simp] theorem State.appendRecord_fixed (s : State) (r : Request) (lane : Nat) :
    (s.appendRecord r lane).fixed = s.fixed := rfl

@[simp] theorem State.answerDone_fixed (s : State) (i : UpId) (key : Nat) (d : List Byte) :
    (s.answerDone i key d).fixed = s.fixed := rfl

@[simp] theorem State.answerFailure_fixed (s : State) (i : UpId) (key : Nat) (st : UpStatus) :
    (s.answerFailure i key st).fixed = s.fixed := rfl

@[simp] theorem State.reportValue_fixed (s : State) (i : UpId) (key v : Nat) :
    (s.reportValue i key v).fixed = s.fixed := by
  unfold State.reportValue
  repeat' split
  all_goals rfl

@[simp] theorem State.reportFailure_fixed (s : State) (i : UpId) (key : Nat) (st : UpStatus) :
    (s.reportFailure i key st).fixed = s.fixed := by
  unfold State.reportFailure
  repeat' split
  all_goals rfl

@[simp] theorem State.raiseOne_fixed (s : State) (w : WinNo) (i : Nat) (k : AlertKind) :
    (s.raiseOne w i k).fixed = s.fixed := rfl

@[simp] theorem State.raise_fixed (s : State) (w : WinNo) (i : Nat) (ks : List AlertKind) :
    (s.raise w i ks).fixed = s.fixed := foldl_keeps State.fixed (fun t k => t.raiseOne w i k) (fun _ _ => rfl) ks s

@[simp] theorem State.freeEntry_fixed (s : State) (e : EntryNo) :
    (s.freeEntry e).fixed = s.fixed := rfl

@[simp] theorem State.freeEntries_fixed (s : State) (es : List EntryNo) :
    (s.freeEntries es).fixed = s.fixed := foldl_keeps State.fixed State.freeEntry (fun _ _ => rfl) es s

@[simp] theorem State.joinClean_fixed (s : State) (e : EntryNo) :
    (s.joinClean e).fixed = s.fixed := rfl

@[simp] theorem State.slotCaptured_fixed (s : State) (k : SlotNo) (v : Nat) :
    (s.slotCaptured k v).fixed = s.fixed := by
  unfold State.slotCaptured
  repeat' split
  all_goals rfl

@[simp] theorem State.mapEntry_fixed (s : State) (e : EntryNo) (f : Entry → Entry) :
    (s.mapEntry e f).fixed = s.fixed := by
  unfold State.mapEntry
  repeat' split
  all_goals rfl

@[simp] theorem State.markUpdate_fixed (s : State) (e : EntryNo) :
    (s.markUpdate e).fixed = s.fixed := by
  unfold State.markUpdate
  repeat' split
  all_goals rfl

@[simp] theorem State.useClean_fixed (s : State) (e : EntryNo) :
    (s.useClean e).fixed = s.fixed := by
  unfold State.useClean
  repeat' split
  all_goals rfl

@[simp] theorem State.allocAccum_fixed (s : State) (e : EntryNo) (w : WinNo) (i a : Nat) :
    (s.allocAccum e w i a).fixed = s.fixed := rfl

@[simp] theorem State.allocFetch_fixed (s : State) (e : EntryNo) (w : WinNo) (i : Nat) (ws : List Waiter) (u m : Bool) :
    (s.allocFetch e w i ws u m).fixed = s.fixed := rfl

theorem State.obtain_fixed (s : State) {e : EntryNo} {t : State} (h : s.obtain = some (e, t)) :
    t.fixed = s.fixed := by
  unfold State.obtain at h
  repeat' split at h
  all_goals (cases h; try rfl)

@[simp] theorem State.applyNow_fixed (s : State) (e : EntryNo) (o : Operation) (i : UpId) (link : Nat) :
    (s.applyNow e o i link).fixed = s.fixed := by
  unfold State.applyNow
  split
  · rfl
  · split
    · rfl
    · dsimp only
      split <;> split <;> simp

@[simp] theorem State.captureNow_fixed (s : State) (e : EntryNo) (k : SlotNo) :
    (s.captureNow e k).fixed = s.fixed := by
  unfold State.captureNow
  split
  · rfl
  · split
    · rfl
    · dsimp only
      split <;> simp

@[simp] theorem State.appendWaiters_fixed (s : State) (e : EntryNo) (ws : List Waiter) (u m : Bool) :
    (s.appendWaiters e ws u m).fixed = s.fixed := by
  unfold State.appendWaiters
  repeat' split
  all_goals rfl

@[simp] theorem State.foldAdd_fixed (s : State) (e : EntryNo) (a : Nat) :
    (s.foldAdd e a).fixed = s.fixed := by simp [State.foldAdd]

@[simp] theorem State.takeEarly_fixed (s : State) (i : Nat) (k : SlotNo) :
    (s.takeEarly i k).fixed = s.fixed := rfl

@[simp] theorem State.carryOut_fixed (s : State) (w : WinNo) (i : Nat) (o : Operation) (id : UpId) (link : Nat) (cap : Option SlotNo) :
    (s.carryOut w i o id link cap).fixed = s.fixed := by
  unfold State.carryOut
  dsimp only
  split
  · split
    · rfl
    · rename_i h
      split <;> simp [State.obtain_fixed s h]
  · split
    · rfl
    · repeat' split
      all_goals first | rfl | simp

@[simp] theorem State.accept_fixed (s : State) (w : WinNo) (i : Nat) (o : Operation) (id : UpId) (link : Nat) :
    (s.accept w i o id link).fixed = s.fixed := by
  unfold State.accept
  repeat' split
  all_goals first | rfl | simp

@[simp] theorem State.requestCapture_fixed (s : State) (w : WinNo) (i : Nat) (k : SlotNo) :
    (s.requestCapture w i k).fixed = s.fixed := by
  unfold State.requestCapture
  split
  · split
    · rfl
    · rename_i h
      simp [State.obtain_fixed s h]
  · split
    · rfl
    · repeat' split
      all_goals first | rfl | simp

@[simp] theorem State.withdrawCaptures_fixed (s : State) :
    (s.withdrawCaptures).fixed = s.fixed := rfl

@[simp] theorem State.startFlush_fixed (s : State) (e : EntryNo) :
    (s.startFlush e).fixed = s.fixed := by
  unfold State.startFlush
  repeat' split
  all_goals rfl

@[simp] theorem State.startFlushes_fixed (s : State) (es : List EntryNo) :
    (s.startFlushes es).fixed = s.fixed := foldl_keeps State.fixed _ (fun a e => State.startFlush_fixed a e) es s

@[simp] theorem State.ageCheck_fixed (s : State) :
    (s.ageCheck).fixed = s.fixed := by
  unfold State.ageCheck
  repeat' split
  all_goals first | rfl | simp

@[simp] theorem State.pressureAct_fixed (s : State) :
    (s.pressureAct).fixed = s.fixed := by
  unfold State.pressureAct
  split
  · rfl
  · simp

@[simp] theorem State.drainStart_fixed (s : State) (w : WinNo) :
    (s.drainStart w).fixed = s.fixed := by simp [State.drainStart]

@[simp] theorem State.completionCheck_fixed (s : State) :
    (s.completionCheck).fixed = s.fixed := by
  unfold State.completionCheck
  repeat' split
  all_goals rfl

@[simp] theorem State.endCheck_fixed (s : State) :
    (s.endCheck).fixed = s.fixed := by
  unfold State.endCheck
  repeat' split
  all_goals rfl

@[simp] theorem State.setLack_fixed (s : State) (l : Option WalkLack) :
    (s.setLack l).fixed = s.fixed := rfl

@[simp] theorem State.walkStep_fixed (s : State) :
    (s.walkStep).fixed = s.fixed := by
  unfold State.walkStep
  split
  · split
    · rfl
    · dsimp only
      split
      · split
        · rfl
        · simp; rfl
      · simp; rfl
  · rfl

@[simp] theorem State.retryWalk_fixed (s : State) :
    (s.retryWalk).fixed = s.fixed := by
  unfold State.retryWalk
  repeat' split
  all_goals first | rfl | simp

@[simp] theorem State.leaveRunning_fixed (s : State) (e : Ending) :
    (s.leaveRunning e).fixed = s.fixed := rfl

@[simp] theorem State.failSnapshot_fixed (s : State) (i : Nat) :
    (s.failSnapshot i).fixed = s.fixed := by
  unfold State.failSnapshot
  split <;> rfl

@[simp] theorem State.snapshotFaulted_fixed (s : State) (w : WinNo) (i : Nat) :
    (s.snapshotFaulted w i).fixed = s.fixed := by
  unfold State.snapshotFaulted
  repeat' split
  all_goals first | rfl | simp

@[simp] theorem State.destinationWritten_fixed (s : State) (k : SlotNo) :
    (s.destinationWritten k).fixed = s.fixed := by
  unfold State.destinationWritten
  dsimp only
  split <;> simp

@[simp] theorem State.latchAtAcceptance_fixed (s : State) (w : WinNo) (i : Nat) (o : Operation) (id : UpId) (link : Nat) :
    (s.latchAtAcceptance w i o id link).fixed = s.fixed := by
  unfold State.latchAtAcceptance
  repeat' split
  all_goals rfl

theorem State.latchServe_fixed (s : State) {w : WinNo} {i : Nat} {o : Operation} {id : UpId} {link : Nat} {t : State}
    (h : s.latchServe w i o id link = some t) : t.fixed = s.fixed := by
  unfold State.latchServe at h
  repeat' split at h
  all_goals first | (cases h; rfl) | cases h

theorem State.offer_fixed (s : State) {w : WinNo} {i : Nat} {o : Operation} {id : UpId} {link : Nat} {t : State}
    (h : s.offer w i o id link = .settled t) : t.fixed = s.fixed := by
  unfold State.offer at h
  split at h
  · rename_i hl
    cases h
    exact State.latchServe_fixed s hl
  · split at h
    · split at h
      · cases h; simp
      · cases h
    · cases h
    · dsimp only at h
      split at h <;> (cases h; simp)

theorem State.treat_fixed (s : State) {d : CounterOp} {id : UpId} {link : Nat} {t : State}
    (h : s.treat d id link = .settled t) : t.fixed = s.fixed := by
  unfold State.treat at h
  dsimp only at h
  repeat' split at h
  all_goals first
    | exact State.offer_fixed s h
    | (cases h; simp)
    | cases h

@[simp] theorem State.retryHold_fixed (s : State) :
    (s.retryHold).fixed = s.fixed := by
  unfold State.retryHold
  split
  · rfl
  · split
    · rename_i h
      exact (State.treat_fixed s h : _)
    · rfl

@[simp] theorem retries_fixed (a b : State) : (retries a b).fixed = b.fixed := by
  unfold retries
  repeat' split
  all_goals simp
  all_goals rfl

@[simp] theorem rounds_fixed (n : Nat) (a b : State) : (rounds n a b).fixed = b.fixed := by
  induction n generalizing a b with
  | zero => rfl
  | succ n ih =>
    unfold rounds
    dsimp only
    split <;> split <;> simp [ih]

@[simp] theorem orderFlushes_fixed (a b : State) : (orderFlushes a b).fixed = b.fixed := rfl


end Sys2Proof.Machine
end

