-- ==== Sys2Proof/Laws/Ops.lean ====
section
/-!
SUPPORT. One lemma per shared operation that says everything it can do, for proofs to cite in place of unfolding it.
-/

namespace Sys2Proof

/-! ### Bytes -/

@[simp] theorem length_bytesLE (n v : Nat) : (bytesLE n v).length = n := by
  induction n generalizing v with
  | zero => rfl
  | succ n ih => simp [bytesLE, ih]

/-- Reading back the bytes written gives the value, cut to their number. -/
theorem natLE_bytesLE (n v : Nat) : natLE (bytesLE n v) = v % 256 ^ n := by
  induction n generalizing v with
  | zero => simp [bytesLE, natLE, Nat.mod_one]
  | succ n ih =>
    simp only [bytesLE, natLE, ih, BitVec.toNat_ofNat]
    have h := Nat.mod_mul (a := 256) (b := 256 ^ n) (x := v)
    rw [show (256 : Nat) ^ (n + 1) = 256 * 256 ^ n from pow_succ' 256 n, h]

/-- A field of a layout, past a known first part. -/
theorem field_append (a b : List Byte) (off size : Nat) (h : a.length = off) :
    field (a ++ b) off size = natLE (b.take size) := by
  subst h
  simp [field]

namespace Machine

/-! ### Lookup and allocation (R62, R64, R65) -/

/-- A lookup that finds an entry finds one that names the counter. -/
theorem State.lookup_some {s : State} {w : WinNo} {i : Nat} {e : EntryNo} (h : s.lookup w i = some e) :
    ∃ x, s.entry e = some x ∧ x.window = w ∧ x.index = i := by
  have := List.find?_some h
  revert this
  split
  · rename_i x hx
    intro hd
    exact ⟨x, hx, (of_decide_eq_true hd).1, (of_decide_eq_true hd).2⟩
  · intro hf
    cases hf

/-- A lookup finds nothing exactly where no entry names the counter. -/
theorem State.lookup_none {s : State} {w : WinNo} {i : Nat} :
    s.lookup w i = none ↔ ∀ e x, s.entry e = some x → ¬ (x.window = w ∧ x.index = i) := by
  unfold State.lookup
  rw [List.find?_eq_none]
  constructor
  · intro h e x hx hwi
    have := h e (List.mem_finRange e)
    rw [hx] at this
    exact this (decide_eq_true hwi)
  · intro h e _
    cases hx : s.entry e with
    | none => simp
    | some x => simpa using fun hw hi => h e x hx ⟨hw, hi⟩

/-- An allocation takes a FREE entry, or the clean list's head where none is FREE. -/
theorem State.obtain_cases {s t : State} {e : EntryNo} (h : s.obtain = some (e, t)) :
    (s.lowestFree = some e ∧ t = s) ∨
      (s.lowestFree = none ∧ ∃ rest, s.clean = e :: rest ∧ t = { s.setEntry e none with clean := rest }) := by
  unfold State.obtain at h
  split at h
  · rename_i hf
    cases h
    exact .inl ⟨hf, rfl⟩
  · rename_i hf
    split at h
    · rename_i hc
      cases h
      exact .inr ⟨hf, _, hc, rfl⟩
    · cases h

/-- The lowest-numbered FREE entry is FREE. -/
theorem State.lowestFree_free {s : State} {e : EntryNo} (h : s.lowestFree = some e) : s.entry e = none := by
  have := List.find?_some h
  simpa using this

/-- The lowest-numbered free tag is free. -/
theorem State.lowestTag_free {s : State} {t : Tag} (h : s.lowestTag = some t) : s.tagAt t = none := by
  have := List.find?_some h
  simpa using this

/-! ### Flushes (R96) -/

/-- A flush moves a gathered or dirty entry of the dirty list to the issue queue, and leaves any other as it is. -/
theorem State.startFlush_cases (s : State) (e : EntryNo) :
    s.startFlush e = s ∨
      ∃ x b, s.entry e = some x ∧
        ((∃ d m, x.body = .accum d m ∧ b = .fetch d m .flush) ∨ ∃ v, x.body = .held v true ∧ b = .write v false) ∧
        s.startFlush e = { s.setEntry e (some { x with body := b }) with
          dirty := s.dirty.filter (fun y => decide (y ≠ e)), issue := s.issue ++ [e] } := by
  unfold State.startFlush
  split
  · exact .inl rfl
  · rename_i x hx
    split
    · rename_i d m hb
      exact .inr ⟨x, _, hx, .inl ⟨d, m, hb, rfl⟩, rfl⟩
    · rename_i v hb
      exact .inr ⟨x, _, hx, .inr ⟨v, hb, rfl⟩, rfl⟩
    all_goals exact .inl rfl

@[simp] theorem State.startFlush_clean (s : State) (e : EntryNo) : (s.startFlush e).clean = s.clean := by
  rcases s.startFlush_cases e with h | ⟨x, b, -, -, h⟩ <;> rw [h]
  rfl

@[simp] theorem State.startFlushes_clean (s : State) (es : List EntryNo) : (s.startFlushes es).clean = s.clean := by
  induction es generalizing s with
  | nil => rfl
  | cons e es ih => exact (ih _).trans (State.startFlush_clean s e)

/-! ### Treatment and taking (R42 to R48) -/

/-- An offer is served by the latch, answered NOROOM, accepted, or waits. -/
theorem State.offer_cases (s : State) (w : WinNo) (i : Nat) (o : Operation) (id : UpId) (link : Nat) :
    (∃ t, s.latchServe w i o id link = some t ∧ s.offer w i o id link = .settled t) ∨
    (s.latchServe w i o id link = none ∧
      ((s.offerLack w i o.kind = some .noEntry ∧ s.allStranded = true ∧
          s.offer w i o id link = .settled (s.answerFailure id link .noroom)) ∨
        (∃ r, s.offerLack w i o.kind = some r ∧ s.offer w i o id link = .waits r) ∨
        (s.offerLack w i o.kind = none ∧
          s.offer w i o id link = .settled
            (if o.kind.isPosted then
              ((s.latchAtAcceptance w i o id link).accept w i o id link).answerDone id link []
             else (s.latchAtAcceptance w i o id link).accept w i o id link)))) := by
  unfold State.offer
  split
  · rename_i t h
    exact .inl ⟨t, h, rfl⟩
  · rename_i h
    refine .inr ⟨h, ?_⟩
    split
    · rename_i hl
      split
      · rename_i hs
        exact .inl ⟨hl, hs, rfl⟩
      · exact .inr (.inl ⟨_, hl, rfl⟩)
    · rename_i r hl
      exact .inr (.inl ⟨_, by assumption, rfl⟩)
    · rename_i hl
      exact .inr (.inr ⟨hl, rfl⟩)

/-- A treatment offers the request, parks it for ARMING, or answers it. -/
theorem State.treat_cases (s : State) (d : CounterOp) (id : UpId) (link : Nat) :
    s.treat d id link = s.offer d.window d.index d.op id link ∨
      (s.treat d id link = .waits .arming ∧ (s.window d.window).state = .arming) ∨
      ∃ st, (st = .offline ∨ st = .memfault) ∧ s.treat d id link = .settled (s.answerFailure id link st) := by
  unfold State.treat
  dsimp only
  repeat' split
  all_goals first
    | exact .inl rfl
    | exact .inr (.inl ⟨rfl, by assumption⟩)
    | exact .inr (.inr ⟨_, .inl rfl, rfl⟩)
    | exact .inr (.inr ⟨_, .inr rfl, rfl⟩)

/-- A taking of the head request: it needs no grant, and its taking conditions hold. -/
theorem State.takeHead_cases {s t : State} (h : s.takeHead = some t) :
    ∃ r rest, s.channel = r :: rest ∧ s.mayTake r = true ∧
      ((classify s.windows r = .straddling ∧
          t = (({ s with channel := rest } : State).appendRecord r 0).answerFailure r.id (s.list r.id).nextKey
            .refused) ∨
        ∃ w, classify s.windows r = .window w ∧ t = ({ s with channel := rest } : State).takeCounter w r) := by
  unfold State.takeHead at h
  split at h
  · cases h
  · rename_i r rest hc
    split at h
    · rename_i hm
      dsimp only at h
      split at h
      · cases h
      · rename_i hk
        cases h
        exact ⟨r, rest, hc, hm, .inl ⟨hk, rfl⟩⟩
      · rename_i w hk
        cases h
        exact ⟨r, rest, hc, hm, .inr ⟨w, hk, rfl⟩⟩
    · cases h

/-! ### The end of a happening -/

/-- No entry is freed between a state and itself. -/
@[simp] theorem entryFreed_self (s : State) : entryFreed s s = false := by
  simp only [entryFreed, List.any_eq_false]
  intro x _
  cases s.entry x <;> simp

/-- No slot has been FREE between a slot and itself. -/
@[simp] theorem slotReturned_self (x : Slot) : slotReturned x x = false := by
  cases x <;> simp [slotReturned]

@[simp] theorem slotFreed_self (s : State) : slotFreed s s = false := by
  simp [slotFreed]

@[simp] theorem holdDue_self (s : State) : holdDue s s = false := by
  unfold holdDue
  split
  · rfl
  · rename_i h _
    cases h.reason <;>
      simp [becameStranded, joinedClean, waiterReturned, leftFetch, exceptionLeft, leftRunning]

@[simp] theorem walkDue_self (s : State) : walkDue s s = false := by
  unfold walkDue
  split <;> simp [joinedClean, waiterReturned, leftFetch]

@[simp] theorem headLeft_self (s : State) : headLeft s s = false := by
  unfold headLeft
  split
  · rfl
  · rename_i e es h
    simp [h]

/-- The end of a happening is the settling, then the takings and the grant that fall at once. -/
theorem finish_eq (a b : State) :
    finish a b = follow ((settle a b).channel.length + 1) (settle a b) := rfl

/-- What falls at once is a taking of the head request or a grant of the arbiter; before one of two that fall together,
the use of the free value is counted. -/
theorem State.nextHappening_cases {s t : State} (h : s.nextHappening = some t) :
    (s.takeHead = some t ∧ s.chosen = none) ∨ (s.takeHead = none ∧ s.chosen ≠ none ∧ t = s.grant) ∨
      (s.chosen ≠ none ∧ (({ s with choice := s.choice + 1 } : State).takeHead = some t ∨
        t = ({ s with choice := s.choice + 1 } : State).grant)) := by
  unfold State.nextHappening at h
  split at h
  · cases h
  · rename_i t' ht hc
    cases h
    exact .inl ⟨ht, hc⟩
  · rename_i c ht hc
    cases h
    exact .inr (.inl ⟨ht, by simp [hc], rfl⟩)
  · rename_i t' c ht hc
    refine .inr (.inr ⟨by simp [hc], ?_⟩)
    dsimp only at h
    split at h
    · cases h
      exact .inr rfl
    · exact .inl h

/-- Nothing falls at once where no request may be taken and no claim can be granted. -/
theorem State.nextHappening_none {s : State} (ht : s.takeHead = none) (hc : s.chosen = none) :
    s.nextHappening = none := by
  unfold State.nextHappening
  rw [ht, hc]

/-- Where nothing falls at once, the state stands. -/
theorem follow_rest {s : State} (h : s.nextHappening = none) (n : Nat) : follow n s = s := by
  cases n with
  | zero => rfl
  | succ n => simp [follow, h]

/-- What a property needs to hold across the happenings that fall at once: each of them keeps it, with its end. -/
theorem follow_induct {P : State → Prop} (hs : ∀ s t, P s → s.nextHappening = some t → P (settle s t)) (n : Nat)
    (s : State) (h : P s) : P (follow n s) := by
  induction n generalizing s with
  | zero => exact h
  | succ n ih =>
    unfold follow
    split
    · exact h
    · rename_i t ht
      exact ih _ (hs s t h ht)

/-- No choice is made while a request is presented downstream. -/
theorem State.chosen_busy {s : State} (h : s.downReq ≠ none) : s.chosen = none := by
  unfold State.chosen State.mayChoose
  cases hd : s.downReq with
  | none => exact absurd hd h
  | some q => simp

/-! ### The management port -/

/-- A frame whose command is taken: counted, carried out and answered. -/
theorem State.endFrame_taken {s : State} (h : s.takesCommand = true) (code : Byte) (run : State → Reply) :
    s.endFrame code run = (run s.counted).st.answered code (run s.counted).status (run s.counted).results := by
  unfold State.endFrame
  rw [if_pos h]
  rfl

/-- A frame whose command is not taken ends without effect. -/
theorem State.endFrame_dropped {s : State} (h : s.takesCommand = false) (code : Byte) (run : State → Reply) :
    s.endFrame code run = s.dropFrame := by
  unfold State.endFrame
  rw [if_neg (by simp [h])]

/-- The window number of a command. -/
theorem windowArg_ofNat (w : WinNo) : windowArg (BitVec.ofNat 8 w.val) = some w := by
  have h : (BitVec.ofNat 8 w.val).toNat = w.val := by
    rw [BitVec.toNat_ofNat]
    omega
  unfold windowArg
  simp [h]

/-! ### The memory port -/

/-- A grant changes nothing, or takes the lowest-numbered free tag for the claimant chosen. -/
theorem State.grant_cases (s : State) :
    s.grant = s ∨ ∃ c g, s.chosen = some c ∧ s.lowestTag = some g ∧
      s.grant = (let u := { s with
          arbPtr := c, secondGrant := if s.secondGrantDue then false else decide (c = Claimant.table) }
        match c with
        | .pass => u.grantPass g
        | .table => u.grantTable g
        | .snap => u.grantSnap g) := by
  unfold State.grant
  split
  · rename_i c g hc hg
    exact .inr ⟨c, g, hc, hg, rfl⟩
  · exact .inl rfl

/-- An arrival is discarded, or frees its tag and goes to the tag's owner. -/
theorem State.arrive_cases (s : State) (g : Tag) (ok : Bool) (data : BitVec 512) :
    (s.tagAt g = none ∧ s.arrive g ok data = s) ∨
    ∃ r, s.tagAt g = some r ∧
      ((∃ id link, r.owner = .pass id link ∧
          s.arrive g ok data = (s.setTag g none).passCompleted r id link ok data) ∨
        (∃ e, r.owner = .table e ∧ s.arrive g ok data = (s.setTag g none).tableResponse r e ok data) ∨
        ∃ k, r.owner = .snap k ∧ s.arrive g ok data = (s.setTag g none).snapResponse k ok) := by
  unfold State.arrive
  split
  · rename_i h
    exact .inl ⟨h, rfl⟩
  · rename_i r h
    refine .inr ⟨r, h, ?_⟩
    cases ho : r.owner with
    | pass id link => exact .inl ⟨id, link, rfl, rfl⟩
    | table e => exact .inr (.inl ⟨e, rfl, rfl⟩)
    | snap k => exact .inr (.inr ⟨k, rfl, rfl⟩)

/-! ### Response order lists -/

theorem Record.later_refl (r : Record) : r.later r := ⟨rfl, rfl, rfl, rfl, fun _ => rfl⟩

theorem Record.later_trans {a b c : Record} (h : a.later b) (k : b.later c) : a.later c := by
  obtain ⟨h1, h2, h3, h4, h5⟩ := h
  obtain ⟨k1, k2, k3, k4, k5⟩ := k
  refine ⟨k1.trans h1, k2.trans h2, k3.trans h3, k4.trans h4, fun ha => ?_⟩
  have e := h5 ha
  exact (k5 (by rw [e]; exact ha)).trans e

theorem laterList_refl (rs : List Record) : laterList 0 rs rs :=
  ⟨rs, [], by simp, by simpa using List.forall₂_same.mpr fun r _ => Record.later_refl r⟩

/-- Answering records keeps the list's order and its answers. -/
theorem answerRecords_later (which : Record → Bool) (how : Record → Answer) (rs : List Record) :
    List.Forall₂ Record.later rs (answerRecords which how rs) := by
  unfold answerRecords
  rw [List.forall₂_map_right_iff, List.forall₂_same]
  intro r _
  split
  · rename_i h
    refine ⟨rfl, rfl, rfl, rfl, fun ha => ?_⟩
    simp only [Bool.and_eq_true, Option.isNone_iff_eq_none] at h
    rw [h.2] at ha
    cases ha
  · exact Record.later_refl r

/-- Answering records picks no key anew. -/
theorem answerRecords_keys (which : Record → Bool) (how : Record → Answer) (rs : List Record) :
    (answerRecords which how rs).map (·.key) = rs.map (·.key) := by
  unfold answerRecords
  rw [List.map_map]
  refine List.map_congr_left (fun r _ => ?_)
  simp only [Function.comp]
  split <;> rfl

/-! ### The step -/

theorem step_idle {s : State} (h : s.pending = []) : step s = .next s.clockCycle := by
  unfold step
  rw [h]

end Machine

end Sys2Proof
end

