-- ==== Sys2Proof/Laws/Settle.lean ====
section
/-!
SUPPORT. What the end of a happening leaves alone: `State.outer` collects the fields that neither `settle` nor a
taking of the head request writes.
-/

namespace Sys2Proof.Machine

/-- The fields the end of a happening never writes. -/
def State.outer (s : State) :=
  (s.pending, s.rstAsserted, s.tick, s.clock, s.lowMark, s.flushAge, s.flushAgeInEffect, s.prescaler, s.tags,
    s.arbPtr, s.secondGrant, s.downReq, s.enables, s.takenCount, s.frame)

theorem State.outer_of_fixed {a b : State} (h : a.fixed = b.fixed) : a.outer = b.outer := by
  simp only [State.fixed, Prod.mk.injEq] at h
  simp only [State.outer, Prod.mk.injEq]
  tauto

theorem State.faults_of_fixed {a b : State} (h : a.fixed = b.fixed) : a.faults = b.faults := by
  simp only [State.fixed, Prod.mk.injEq] at h
  tauto

theorem State.windows_of_fixed {a b : State} (h : a.fixed = b.fixed) : a.windows = b.windows := by
  simp only [State.fixed, Prod.mk.injEq] at h
  tauto

theorem State.engine_of_fixed {a b : State} (h : a.fixed = b.fixed) : a.engine = b.engine := by
  simp only [State.fixed, Prod.mk.injEq] at h
  tauto

theorem State.channel_of_fixed {a b : State} (h : a.fixed = b.fixed) : a.channel = b.channel := by
  simp only [State.fixed, Prod.mk.injEq] at h
  tauto

theorem State.presented_of_fixed {a b : State} (h : a.fixed = b.fixed) : a.presented = b.presented := by
  simp only [State.fixed, Prod.mk.injEq] at h
  tauto

/-! ### The window table's checks -/

@[simp] theorem State.setWinState_outer (s : State) (w : WinNo) (x : WinState) :
    (s.setWinState w x).outer = s.outer := rfl

@[simp] theorem State.drainCheck_outer (s : State) (w : WinNo) : (s.drainCheck w).outer = s.outer := by
  unfold State.drainCheck
  split <;> rfl

@[simp] theorem State.drainCheck_engine (s : State) (w : WinNo) : (s.drainCheck w).engine = s.engine := by
  unfold State.drainCheck
  split <;> rfl

@[simp] theorem State.drainChecks_outer (s : State) : s.drainChecks.outer = s.outer :=
  foldl_keeps State.outer State.drainCheck (fun a w => State.drainCheck_outer a w) (List.finRange 16) s

@[simp] theorem State.drainChecks_engine (s : State) : s.drainChecks.engine = s.engine :=
  foldl_keeps State.engine State.drainCheck (fun a w => State.drainCheck_engine a w) (List.finRange 16) s

@[simp] theorem State.flushAllCheck_outer (s : State) : s.flushAllCheck.outer = s.outer := by
  unfold State.flushAllCheck
  split <;> rfl

@[simp] theorem State.flushAllCheck_engine (s : State) : s.flushAllCheck.engine = s.engine := by
  unfold State.flushAllCheck
  split <;> rfl

/-! ### The soft reset sequence -/

@[simp] theorem State.failWaiters_fixed (s : State) (ws : List Waiter) (st : UpStatus) :
    (s.failWaiters ws st).fixed = s.fixed := by
  unfold State.failWaiters
  refine foldl_keeps State.fixed _ (fun a y => ?_) ws s
  split
  · split <;> simp
  · rfl

@[simp] theorem State.answerOffline_fixed (s : State) : s.answerOffline.fixed = s.fixed := by
  unfold State.answerOffline
  generalize List.finRange 256 = l
  refine foldl_keeps State.fixed _ (fun a e => ?_) l s
  split <;> simp

@[simp] theorem State.softClear_outer (s : State) : s.softClear.outer = s.outer := by
  have h := State.outer_of_fixed (State.answerOffline_fixed s)
  simp only [State.outer, State.softClear] at h ⊢
  exact h

@[simp] theorem State.clearCheck_outer (s : State) : s.clearCheck.outer = s.outer := by
  unfold State.clearCheck
  split <;> simp

@[simp] theorem State.finishCheck_outer (s : State) : s.finishCheck.outer = s.outer := by
  unfold State.finishCheck
  split <;> rfl

/-! ### The end of a happening -/

@[simp] theorem State.chooseResponse_outer (s : State) : s.chooseResponse.outer = s.outer := by
  unfold State.chooseResponse
  repeat' split
  all_goals rfl

@[simp] theorem State.chooseResponse_engine (s : State) : s.chooseResponse.engine = s.engine := by
  unfold State.chooseResponse
  repeat' split
  all_goals rfl

@[simp] theorem settle_outer (a b : State) : (settle a b).outer = b.outer := by
  simp only [settle, State.chooseResponse_outer, State.finishCheck_outer, State.clearCheck_outer]
  rw [State.outer_of_fixed (orderFlushes_fixed _ _)]
  simp only [State.flushAllCheck_outer, State.drainChecks_outer]
  exact State.outer_of_fixed (rounds_fixed _ _ _)

/-- A management engine that runs no soft reset is untouched by the end of a happening. -/
theorem settle_engine (a b : State) (h : b.softRunning = false) : (settle a b).engine = b.engine := by
  have hr : (orderFlushes a ((rounds roundLimit a b).drainChecks.flushAllCheck)).engine = b.engine := by
    rw [State.engine_of_fixed (orderFlushes_fixed _ _), State.flushAllCheck_engine, State.drainChecks_engine]
    exact State.engine_of_fixed (rounds_fixed _ _ _)
  have hn : ∀ p, b.engine ≠ .executing p := by
    intro p hp
    simp [State.softRunning, hp] at h
  simp only [settle, State.chooseResponse_engine]
  unfold State.finishCheck State.clearCheck
  have h1 : ¬ ((orderFlushes a ((rounds roundLimit a b).drainChecks.flushAllCheck)).engine = .executing .waitTags ∧
      (orderFlushes a ((rounds roundLimit a b).drainChecks.flushAllCheck)).tagsFree = true) := by
    rw [hr]
    exact fun h => hn _ h.1
  rw [if_neg h1, if_neg (by rw [hr]; exact fun h => hn _ h.1)]
  exact hr

/-- Taking the head request keeps the outer fields. -/
theorem State.takeHead_outer (s : State) {t : State} (h : s.takeHead = some t) : t.outer = s.outer := by
  unfold State.takeHead at h
  split at h
  · cases h
  · split at h
    · dsimp only at h
      split at h
      · cases h
      · cases h; rfl
      · cases h
        unfold State.takeCounter
        dsimp only
        split
        · rfl
        · split
          · rename_i hu
            exact (State.outer_of_fixed (State.treat_fixed _ hu) : _)
          · rfl
    · cases h

/-- Taking the head request keeps the management engine. -/
theorem State.takeHead_engine (s : State) {t : State} (h : s.takeHead = some t) : t.engine = s.engine := by
  unfold State.takeHead at h
  split at h
  · cases h
  · split at h
    · dsimp only at h
      split at h
      · cases h
      · cases h; rfl
      · cases h
        unfold State.takeCounter
        dsimp only
        split
        · rfl
        · split
          · rename_i hu
            exact (State.engine_of_fixed (State.treat_fixed _ hu) : _)
          · rfl
    · cases h

end Sys2Proof.Machine
end

