-- ==== Sys2Proof/WellFormed.lean ====
section
/-!
DEFINITION. Which commands the wires can carry: a READ request has neither byte enables nor data, a WRITE has
none beyond its size (R40); a frame without command has fewer than three bytes, a busy frame has a command
(R172), and the bytes of an unassigned command spell no command (R174). The machine gives a meaning to every
term, well-formed or not.
-/

namespace Sys2Proof

/-- A request as the channel carries it (R40). -/
def Request.wf (r : Request) : Bool :=
  match r.kind with
  | .read => r.enables == 0 && r.data == 0
  | .write => decide (r.enables.toNat < 2 ^ r.size.bytes) && decide (r.data.toNat < 2 ^ (8 * r.size.bytes))

/-- A command as the block's wires can bring it. -/
def Instr.wf : Instr → Bool
  | .requestTaken r => r.wf
  | .frameWithoutCommand bytes => decide (bytes.length < 3)
  | .frameBusy bytes => decide (3 ≤ bytes.length) && decide (bytes.head? ≠ some codeNop)
  | .unassignedCommand bytes => decide (parseFrame bytes = .unassignedCommand bytes)
  | .hardReset | .holdSlotRetry | .responseDelivery | .downstreamGrant | .downstreamRequestAccepted
  | .passThroughCompletion _ _ _ | .windowBecomesActive _ | .fetchReturn _ _ | .writeBackReturn _
  | .fetchError _ | .writeBackError _ | .destinationWriteReturn _ | .destinationWriteError _
  | .tableResponseAbsorbed _ _ _ | .snapResponseAbsorbed _ _ | .orphanResponse _ _ _ | .tickAdvance
  | .frameStart | .nop | .windowLoad _ | .windowArm _ | .windowDrain _ | .windowRelease _ | .windowStatus _
  | .windowQuiesce _ | .snapshotStart _ | .snapshotAbort | .snapshotStatus | .snapshotComplete | .snapshotEnd
  | .walkRetry | .faultRead | .retry _ | .discard _ | .alertPop | .flushAll | .flushAllComplete
  | .paramSetLowMark _ | .paramSetFlushAge _ | .paramSetPrescaler _ | .paramSetEnables _ | .paramGet _
  | .mgmtStatus | .entryRead _ | .softReset | .softResetClearing | .softResetEnd | .rstNReleased => true

end Sys2Proof
end

