-- ==== Sys2Proof/Tests/Slice0.lean ====
section
/-!
SUPPORT. Tests of the model against the spec's worked examples, the smoke test of WellFormed, the frames written out
from 10.6, and a witness for the hypotheses of each statement. Every expected value is the spec's or is computed by
hand from it.
-/

namespace Sys2Proof.Tests

set_option Elab.async false

open Machine

/-! ### WellFormed: each check refuses an ill-formed term -/

/-- R40: a READ carries no byte enables. -/
theorem test_wf_read_enables : Instr.wf (.requestTaken
    { kind := .read, id := 0, addr := 0, size := .b4, enables := 1, data := 0 }) = false := by decide +kernel
/-- R40: a READ carries no data. -/
theorem test_wf_read_data : Instr.wf (.requestTaken
    { kind := .read, id := 0, addr := 0, size := .b4, enables := 0, data := 1 }) = false := by decide +kernel
/-- R40: a WRITE of four bytes has four byte enables. -/
theorem test_wf_write_enables : Instr.wf (.requestTaken
    { kind := .write, id := 0, addr := 0, size := .b4, enables := 0x1F, data := 0 }) = false := by decide
/-- R40: a WRITE of four bytes has four data bytes. -/
theorem test_wf_write_data : Instr.wf (.requestTaken
    { kind := .write, id := 0, addr := 0, size := .b4, enables := 0xF, data := 0x100000000 }) = false := by
  decide +kernel
/-- R172: a frame of three bytes has a command. -/
theorem test_wf_short : Instr.wf (.frameWithoutCommand [0x01, 0, 0]) = false := by decide
/-- R172: a frame of two bytes has none. -/
theorem test_wf_busy_short : Instr.wf (.frameBusy [0x01, 0]) = false := by decide
/-- R172: a NOP is no command taken. -/
theorem test_wf_busy_nop : Instr.wf (.frameBusy [0x00, 0, 0]) = false := by decide
/-- R174: MGMT STATUS is assigned. -/
theorem test_wf_assigned : Instr.wf (.unassignedCommand [0x01, 0, 0]) = false := by decide

/-! ### Frames, written out from 10.6 -/

/-- WINDOW LOAD of window 2, S = 0x0000001000, N = 4, L = 2, A = 0x0000002000, SATURATE, e = 3. -/
theorem test_frame_window_load : parseFrame
    [0x10, 0x12, 0x00, 0x02, 0x00, 0x10, 0x00, 0x00, 0x00, 0x04, 0x00, 0x00, 0x00, 0x02, 0x00, 0x20, 0x00, 0x00, 0x00,
      0x01, 0x03] =
    .windowLoad { window := 2, storage := 0x1000, count := 4, lanes := 2, aliasBase := 0x2000, policy := .saturate
                  exponent := 3 } := by decide
/-- SNAPSHOT START of window 1, f = 2, n = 3, D = 0x0000010000, COPY_CLEAR. -/
theorem test_frame_snapshot_start : parseFrame
    [0x20, 0x0F, 0x00, 0x01, 0x02, 0x00, 0x00, 0x00, 0x03, 0x00, 0x00, 0x00, 0x00, 0x00, 0x01, 0x00, 0x00, 0x01] =
    .snapshotStart { window := 1, first := 2, count := 3, dest := 0x10000, mode := .copyClear } := by decide
/-- PARAM SET of the low mark to 64. -/
theorem test_frame_param_set : parseFrame [0x02, 0x05, 0x00, 0x01, 0x40, 0x00, 0x00, 0x00] =
    .paramSetLowMark 64 := by decide
/-- ENTRY READ by counter (3, 0x010203). -/
theorem test_frame_entry_read : parseFrame [0x48, 0x04, 0x00, 0x03, 0x03, 0x02, 0x01] =
    .entryRead (.byCounter 3 0x010203) := by decide
/-- RETRY of window 5, with a byte after the declared argument (R172). -/
theorem test_frame_retry : parseFrame [0x39, 0x01, 0x00, 0x05, 0xAA] = .retry 5 := by decide
/-- ALERT POP, FLUSH ALL and SOFT RESET carry no argument. -/
theorem test_frame_no_argument : parseFrame [0x30, 0, 0] = .alertPop ∧ parseFrame [0x40, 0, 0] = .flushAll ∧
    parseFrame [0x04, 0, 0] = .softReset := by decide
/-- R174: an unassigned code, a wrong length, a short frame, an unassigned policy code. -/
theorem test_frame_unassigned :
    parseFrame [0x7F, 0, 0] = .unassignedCommand [0x7F, 0, 0] ∧
    parseFrame [0x11, 0x02, 0x00, 0x01, 0x01] = .unassignedCommand [0x11, 0x02, 0x00, 0x01, 0x01] ∧
    parseFrame [0x11, 0x01, 0x00] = .unassignedCommand [0x11, 0x01, 0x00] ∧
    (parseFrame ([0x10, 0x12, 0x00] ++ List.replicate 16 0 ++ [0x02, 0x00])).wf = true := by decide

/-! ### Chapter 1's worked examples -/

/-- Window 3 of the examples: 64-bit counters under WRAP, e = 40. -/
def wide : WinConfig :=
  { storage := 0x1000, count := 4, width := .two, aliasBase := 0x2000, policy := .wrap, exponent := 40 }

/-- A 32-bit counter under SATURATE, e = 31. -/
def narrow : WinConfig :=
  { storage := 0x1000, count := 4, width := .one, aliasBase := 0x2000, policy := .saturate, exponent := 31 }

/-- A 128-bit counter under WRAP, e = 0. -/
def quad : WinConfig :=
  { storage := 0x1000, count := 4, width := .four, aliasBase := 0x2000, policy := .wrap, exponent := 0 }

def addOp (lane x : Nat) : Operation := { kind := .add, lane := lane, lanes := 1, x := x }
def subOp (lane x : Nat) : Operation := { kind := .sub, lane := lane, lanes := 1, x := x }

/-- "Lane carry, borrow and the floor", lines 1, 2, 4 and 5. -/
theorem test_lane_carry :
    applyValue wide (addOp 0 0x20) 0x00000000FFFFFFF0 = 0x0000000100000010 ∧
    applyOutcomes wide (addOp 0 0x20) 0x00000000FFFFFFF0 = [] ∧
    applyValue wide (addOp 1 0xFF) 0x0000000100000010 = 0x0000010000000010 ∧
    applyOutcomes wide (addOp 1 0xFF) 0x0000000100000010 = [.level] ∧
    applyValue wide (subOp 1 0x100) 0x0000010000000010 = 0x10 ∧ applyValue wide (subOp 0 0x30) 0x10 = 0 := by
  decide

/-- "Saturation and level together", lines 1, 2, 4 and 6. -/
theorem test_saturation :
    applyValue narrow (addOp 0 0x90000000) 0x7FFFFFF0 = 0xFFFFFFFF ∧
    applyOutcomes narrow (addOp 0 0x90000000) 0x7FFFFFF0 = [.level, .saturated] ∧
    applyOutcomes narrow (addOp 0 1) 0xFFFFFFFF = [] ∧
    applyOutcomes narrow (addOp 0 0x20) 0xFFFFFFEF = [.saturated] ∧
    applyOutcomes narrow { kind := .max, lane := 0, lanes := 1, x := 0x80000000 } 0 = [.level] := by
  decide

/-- "A wide wrap and a partial SET": the ADD, the SET and the READ's bytes. -/
theorem test_wide_wrap :
    applyValue quad (addOp 2 1) (2 ^ 128 - 1) = 2 ^ 64 - 1 ∧
    applyOutcomes quad (addOp 2 1) (2 ^ 128 - 1) = [.wrapped] ∧
    applyValue quad { kind := .set, lane := 3, lanes := 1, x := 0x80000000 } (2 ^ 64 - 1) =
      2 ^ 127 + 2 ^ 64 - 1 ∧
    laneBytes (2 ^ 127 + 2 ^ 64 - 1) 2 8 = [0, 0, 0, 0, 0, 0, 0, 0x80] := by
  decide

/-- "Adds gathered before the value is known". -/
theorem test_gathered :
    let c := { narrow with policy := .wrap, exponent := 0 }
    policySum .wrap .one 0xFFFFFFFF 0xFFFFFFFF = 0xFFFFFFFE ∧ foldMark .one 0xFFFFFFFF 0xFFFFFFFF false = true ∧
    runValue c 0xFFFFFFFE 0x10 = 0xE ∧ runOutcomes c 0xFFFFFFFE true 0x10 = [.wrapped] := by
  decide

/-! ### States the tests and witnesses stand on -/

/-- A frame that may carry a command. -/
def freshFrame : Frame :=
  { captured := State.reset.capture, received := [], live := true }

/-- The part with a frame in progress that may carry a command. -/
def framed : State := { State.reset with frame := some freshFrame }

/-- Window 3 of chapter 1's examples. -/
def window3 (st : WinState) : Window := { state := st, config := some wide }

/-- The part with window 3 in a state, and a frame in progress. -/
def withWindow3 (st : WinState) : State := framed.setWindow 3 (window3 st)

/-- An entry of counter (3, 1). -/
def entryOf (b : Body) : Entry :=
  { window := 3, index := 1, body := b, waiters := [], dirtySince := none, lastUse := 0, flushAll := false
    captureRequested := false, retry := false }

/-- Window 3 in a state, with entry 0 for counter (3, 1). -/
def withEntry (st : WinState) (b : Body) : State := (withWindow3 st).setEntry 0 (some (entryOf b))

/-- A WRITE of four bytes to the ADD plane, lane 1 of counter (3, 1): 0x2000 + 8 + 4. -/
def addRequest : Request :=
  { kind := .write, id := 5, addr := 0x200C, size := .b4, enables := 0xF, data := 0xFF }

/-- A READ of eight bytes of counter (3, 1) on the DIRECT plane. -/
def readRequest : Request :=
  { kind := .read, id := 5, addr := 0x1008, size := .b8, enables := 0, data := 0 }

/-- A request outside every window. -/
def outsideRequest : Request :=
  { kind := .read, id := 4, addr := 0x900000, size := .b16, enables := 0, data := 0 }

/-- A table tag record for a transaction of entry 0. -/
def tableRecord (k : ReqKind) : TagRecord :=
  { owner := .table 0, kind := k, addr := 0x1008, size := 8 }

/-- The next state of a command, or the reset state where there is none. -/
def next (o : Host.Outcome State Fault Refusal) : State :=
  match o with
  | .next s => s
  | .fault _ | .refused _ => State.reset

/-! ### Single commands -/

/-- R4 to R7: the request decodes to ADD, lane 1, of counter (3, 1). -/
theorem test_decode_add : decodeCounter 3 wide addRequest = some
    { window := 3, plane := .add, index := 1, op := { kind := .add, lane := 1, lanes := 1, x := 0xFF } } := by
  decide +kernel

/-- R6: eight bytes at lane 1 of a 64-bit counter reach past it; MAX takes whole counters alone. -/
theorem test_decode_illegal :
    decodeCounter 3 wide { addRequest with size := .b8, enables := 0xFF } = none ∧
    decodeCounter 3 wide { addRequest with addr := 0x2048 } = none ∧
    (decodeCounter 3 wide { addRequest with addr := 0x2048, size := .b8, enables := 0xFF }).isSome = true := by
  decide +kernel

/-- R24: a request that begins below the storage range and ends in it straddles. -/
theorem test_straddling : classify (withWindow3 .active).windows
    { kind := .read, id := 0, addr := 0xFF8, size := .b16, enables := 0, data := 0 } = .straddling ∧
    classify (withWindow3 .quiesced).windows readRequest = .outside ∧
    classify (withWindow3 .quiesced).windows addRequest = .window 3 := by
  decide +kernel

/-- R29: WINDOW LOAD of the frame's window 2 leaves it LOADED; the response is OK. -/
theorem test_window_load :
    let t := next (exec (.windowLoad
      { window := 2, storage := 0x1000, count := 4, lanes := 2, aliasBase := 0x2000, policy := .saturate
        exponent := 3 }) framed)
    (t.window 2).state = .loaded ∧ t.takenCount = 1 := by
  decide +kernel

/-- R29, R30: overlapping ranges are refused OVERLAP, and exponent 65 of a 64-bit window BAD_ARGUMENT. -/
theorem test_window_load_refused :
    (framed.windowLoad { window := 2, storage := 0x1000, count := 4, lanes := 2, aliasBase := 0x1018
                         policy := .wrap, exponent := 3 }).status = .overlap ∧
    (framed.windowLoad { window := 2, storage := 0x1000, count := 4, lanes := 2, aliasBase := 0x1020
                         policy := .wrap, exponent := 3 }).status = .ok ∧
    (framed.windowLoad { window := 2, storage := 0x1000, count := 4, lanes := 2, aliasBase := 0x2000
                         policy := .wrap, exponent := 65 }).status = .badArgument := by
  decide +kernel

/-- R74: the ADD allocates entry 0 in ACCUM with D = 0xFF·2^32, and is answered DONE. -/
theorem test_first_add :
    let t := next (exec (.requestTaken addRequest) (withWindow3 .active))
    ((t.entry 0).map (·.body) = some (.accum 0xFF00000000 false)) ∧ t.presented = some 5 := by
  decide +kernel

/-- R77, R118: the READ allocates entry 0 in FETCH and waits; the downstream channel being free, its fetch is granted
tag 0 at once. -/
theorem test_first_read :
    let t := next (exec (.requestTaken readRequest) (withWindow3 .active))
    ((t.entry 0).map (·.body) = some (.fetch 0 false .resolve)) ∧ t.issue = [] ∧ t.presented = none ∧
      t.downReq = some { kind := .read, tag := 0, addr := 0x1008, size := 8, enables := [], data := [] } := by
  decide +kernel

/-- R116 and the worked example of 6.3: with 25 PASS tags, 2 TABLE tags and the pointer at SNAP, PASS is chosen; with
26, TABLE is. -/
def tagsHeld (pass table : Nat) : Vector (Option TagRecord) 32 :=
  Vector.ofFn (fun t =>
    if t.val < pass then some { owner := .pass 0 0, kind := .read, addr := 0, size := 4 }
    else if t.val < pass + table then some (tableRecord .read)
    else none)

def arbiterState (pass table : Nat) (p : Claimant) (mark : Bool) : State :=
  { withEntry .active (.fetch 0 false .resolve) with
    tags := tagsHeld pass table, issue := [0], channel := [outsideRequest], arbPtr := p, secondGrant := mark
    lowMark := 128, dirty := [], clean := [] }

theorem test_arbiter_example :
    (arbiterState 25 2 .snap false).chosen = some .pass ∧ (arbiterState 26 2 .pass false).chosen = some .table ∧
    (arbiterState 26 4 .snap false).chosen = none ∧ (arbiterState 25 4 .snap false).chosen = some .pass := by
  decide +kernel

/-- R85, R87: a fetch of 64-bit counter (3, 1) returns 5 with D = 3: HELD dirty with V = 8. -/
theorem test_fetch_return :
    let s := (withEntry .active (.fetch 3 false .resolve)).setTag 0 (some (tableRecord .read))
    ((next (exec (.fetchReturn 0 5) s)).entry 0).map (·.body) = some (.held 8 true) := by
  decide +kernel

/-- R150, R37, R154: a write-back error strands the entry with its value, and puts the window in FAULT. -/
theorem test_write_back_error :
    let s := (withEntry .draining (.write 9 true)).setTag 0 (some (tableRecord .write))
    let t := next (exec (.writeBackError 0) s)
    (t.entry 0).map (·.body) = some (.strandedWrite 9) ∧ (t.window 3).state = .fault .draining ∧
      t.faults.first = some { kind := .writeFailed, window := 3, index := 1 } := by
  decide +kernel

/-- R182 to R184: with no tag in use and nothing owed, SOFT RESET ends at its own happening. -/
theorem test_soft_reset :
    let t := next (exec .softReset (withEntry .active (.held 7 true)))
    t.softCount = 1 ∧ (t.window 3).state = .empty ∧ t.entry 0 = none := by
  decide +kernel

/-- R163, R164: the 33rd alert takes a number and is dropped. -/
theorem test_alert_dropped :
    let s := State.reset.raise 3 1 (List.replicate 33 .level)
    s.alerts.length = 32 ∧ s.alertSeq = 33 := by
  decide +kernel

/-- R172: the response frame of an idle port. -/
theorem test_idle_frame : State.reset.capture.bytes = [0, 0, 0, 0, 0, 0] := by decide +kernel

/-! ### Witnesses: the hypotheses of each statement can be met -/

/-- A table response's tag 0 in use, in a state. -/
def tagged (s : State) (k : ReqKind) : State := s.setTag 0 (some (tableRecord k))

theorem reset_entry (e : EntryNo) : State.reset.entry e = none := by
  simp [State.entry, State.reset]

theorem withEntry_entry (st : WinState) (b : Body) (e : EntryNo) :
    (withEntry st b).entry e = if 0 = e then some (entryOf b) else none := by
  rw [withEntry, State.entry_setEntry]
  congr 1
  exact reset_entry e

theorem witness_StepRunsFrontCommand : ∃ (c : Instr) (rest : List Instr) (s : State), s.pending = c :: rest :=
  ⟨.nop, [], { State.reset with pending := [.nop] }, rfl⟩

theorem witness_IdleStepIsOneClock :
    (∃ s : State, s.pending = [] ∧ s.rstAsserted = true) ∧
    (∃ s : State, s.pending = [] ∧ s.rstAsserted = false ∧ s.clock + 1 < s.prescaler) ∧
    ∃ s : State, s.pending = [] ∧ s.rstAsserted = false ∧ s.prescaler ≤ s.clock + 1 :=
  ⟨⟨{ State.reset with rstAsserted := true }, rfl, rfl⟩, ⟨State.reset, rfl, rfl, by decide⟩,
    ⟨{ State.reset with clock := 1023 }, rfl, rfl, by decide⟩⟩

theorem witness_FinishKeepsAndRests :
    let s := withEntry .draining (.held 7 true)
    s.softRunning = false ∧ holdDue s s = false ∧ walkDue s s = false ∧ s.pressure = false ∧
      headLeft s s = false ∧
      (∀ w, (s.window w).state = .draining → s.entryCount w ≠ 0 ∨ s.holdsRequestOf w = true) ∧
      (s.flushAllRunning = true → s.anyFlushMark = true ∨ s.carry ≠ []) ∧ (∀ e, flushedNow s s e = false) ∧
      s.channel = [] ∧ s.chosen = none := by
  decide +kernel

theorem witness_FinishKeepsAndRests_presented : ∃ s : State, s.softRunning = false ∧ s.downReq ≠ none :=
  ⟨{ State.reset with downReq := some { kind := .read, tag := 0, addr := 0, size := 8, enables := [], data := [] } },
    by decide +kernel⟩

/-- A held READ of a window that drains. -/
def heldRead : Held :=
  { request := readRequest
    decoded := { window := 3, plane := .direct, index := 1, op := { kind := .read, lane := 0, lanes := 2, x := 0 } }
    link := 0, reason := .noWaiter }

/-- Window 3 goes from ARMING to ACTIVE with a READ of counter (3, 1) in the hold slot. -/
theorem witness_FinishKeepsAndRests_hold :
    let a : State := { withWindow3 .arming with hold := some { heldRead with reason := .arming } }
    let b := a.setWinState 3 .active
    let r := b.retryHold
    let d := r.pressureAct
    holdDue a b = true ∧ walkDue a b = false ∧ (a.dirty = [] ∧ b.dirty = [] ∧ r.dirty = []) ∧ holdDue b d = false ∧
      walkDue b d = false ∧ (∀ w, (d.window w).state ≠ .draining) ∧ d.flushAllRunning = false ∧
      d.softRunning = false ∧ (orderFlushes a d).chooseResponse.takeHead.isNone = true ∧
      (orderFlushes a d).chooseResponse.chosen = some .table := by
  decide +kernel

/-- The head of the dirty list leaves it, and the next one's age has reached the flush age of 1. -/
theorem witness_FinishKeepsAndRests_age :
    let a : State := { (withEntry .active (.held 7 true)).setEntry 1
      (some { entryOf (.held 8 true) with index := 2, dirtySince := some 0 }) with
        dirty := [0, 1], tick := 5, flushAgeInEffect := 1, downReq := some (wholeRead 0 0 4) }
    let b := a.startFlush 0
    let d := b.pressureAct.ageCheck
    holdDue a b = false ∧ walkDue a b = false ∧ (a.dirty = [0, 1] ∧ 0 ∉ b.dirty) ∧ d.dirty = [] ∧
      (∀ w, (d.window w).state ≠ .draining) ∧ d.flushAllRunning = false ∧ d.softRunning = false ∧
      (orderFlushes a d).chooseResponse.chosen = none := by
  decide +kernel

theorem witness_ReleaseAfterHardReset : ∃ s : State, s.channel = [] := ⟨State.reset, rfl⟩

theorem witness_SoftResetTaken :
    let s := { tagged framed .read with hold := some heldRead }
    s.takesCommand = true ∧ s.tagsFree = false ∧ s.hold = some heldRead ∧
      (s.window 0).state ≠ .draining := by
  decide +kernel

/-- A record of ID 5 that is NOT READY, with key 0. -/
def owedRecord : Record :=
  { key := 0, kind := .read, size := 8, lane := 0, source := none, answer := none }

/-- A part whose entry 0 is in FETCH with a READ waiter of ID 5, whose record is owed. -/
def owedPart : State :=
  State.setList
    ((withWindow3 .active).setEntry 0 (some { entryOf (.fetch 0 false .resolve) with
      waiters := [.op { kind := .read, lane := 0, lanes := 2, x := 0 } 5 0] }))
    5 { records := [owedRecord], nextKey := 1 }

theorem witness_SoftResetTaken_free :
    (framed.takesCommand = true ∧ framed.tagsFree = true ∧ framed.listsEmpty = true) ∧
    (owedPart.takesCommand = true ∧ owedPart.tagsFree = true ∧ owedPart.listsEmpty = false) := by
  decide +kernel

theorem witness_SoftResetTaken_clearing :
    (let s := { owedPart with engine := .executing .waitTags, presented := some 2 }
     s.engine = .executing .waitTags ∧ s.tagsFree = true ∧ s.listsEmpty = false ∧ s.hold = none ∧
       s.presented ≠ none ∧ (s.list 5).records = [owedRecord]) ∧
    ∃ s : State, s.engine = .executing .waitTags ∧ s.tagsFree = true ∧ s.listsEmpty = true :=
  ⟨by decide +kernel, { State.reset with engine := .executing .waitTags }, by decide +kernel⟩

theorem witness_SoftResetTaken_owed : owedPart.owesRecord 5 owedRecord :=
  ⟨rfl, 0, _, 0, State.entry_setEntry_same _ _ _, _, 0, rfl, .inl rfl, .inl rfl⟩

theorem witness_SoftResetTaken_end :
    ∃ s : State, s.engine = .executing .waitDelivery ∧ s.listsEmpty = true :=
  ⟨{ State.reset with engine := .executing .waitDelivery }, by decide +kernel⟩

theorem reset_keysFresh (s : State) (h : s.lists = State.reset.lists) : s.keysFresh := by
  intro id r hr
  have : (s.list id).records = [] := by
    simp [State.list, h, State.reset]
  rw [this] at hr
  cases hr

/-- Window 3 active with a request on the channel. -/
def presenting (r : Request) : State := { withWindow3 .active with channel := [r] }

theorem witness_RequestTakenByClass :
    ((withWindow3 .active).keysFresh ∧ (withWindow3 .active).channel = []) ∧
    (∀ r, (presenting r).keysFresh ∧ ((presenting r).list r.id).records.length < 8 ∧ (presenting r).hold = none ∧
      (presenting r).softRunning = false ∧ (presenting r).rstAsserted = false) ∧
    classify (withWindow3 .active).windows outsideRequest = .outside ∧
    classify (withWindow3 .active).windows { outsideRequest with addr := 0xFF8 } = .straddling ∧
    (classify (withWindow3 .active).windows { addRequest with size := .b8 } = .window 3 ∧
      decodeCounter 3 wide { addRequest with size := .b8 } = none) ∧
    ¬ ({ withWindow3 .active with hold := some heldRead } : State).hold = none ∧
    (classify (withWindow3 .active).windows addRequest = .window 3 ∧
      ((withWindow3 .active).window 3).state = .active ∧ (∀ w, ((withWindow3 .active).window w).state ≠ .draining) ∧
      (decodeCounter 3 wide addRequest).isSome = true ∧ (withWindow3 .active).offerLack 3 1 .add = none ∧
      (withWindow3 .active).pressure = false ∧ (withWindow3 .active).flushAllRunning = false) := by
  refine ⟨⟨reset_keysFresh _ rfl, rfl⟩, fun r => ⟨reset_keysFresh _ rfl, ?_, rfl, rfl, rfl⟩, ?_, ?_, ?_, ?_, ?_⟩
  · have : ((presenting r).list r.id).records = [] := by
      simp [State.list, presenting, withWindow3, framed, State.setWindow, State.reset]
    simp [this]
  all_goals decide +kernel

/-- Window 3 alone is configured, and its two ranges are apart. -/
theorem withWindow3_disjoint (st : WinState) (h : st ≠ .empty) : (withWindow3 st).windowsDisjoint := by
  have hw : ∀ w, (withWindow3 st).window w =
      if 3 = w then window3 st else { state := .empty, config := none } := by
    intro w
    refine (State.window_setWindow _ _ _ _).trans ?_
    congr 1
    simp [State.window, framed, State.reset]
  refine ⟨fun w => ?_, fun w c hc => ?_, fun v w c d hvw hc hd => ?_⟩
  · rw [hw]
    split <;> simp [window3, h]
  · rw [hw] at hc
    split at hc
    · cases hc
      rintro ⟨x, h1, h2, h3, h4⟩
      have a1 : wide.storageRange = ⟨0x1000, 0x1000 + 32⟩ := by decide +kernel
      have a2 : wide.aliasRange = ⟨0x2000, 0x2000 + 128⟩ := by decide +kernel
      rw [a1] at h2
      rw [a2] at h3
      simp only at h2 h3
      omega
    · cases hc
  · rw [hw] at hc hd
    split at hc <;> split at hd
    · subst_vars
      exact absurd rfl hvw
    · cases hd
    · cases hc
    · cases hc

theorem witness_RequestTakenByClass_class :
    (withWindow3 .active).windowsDisjoint ∧
    (window3 .loaded).matching = [] ∧ (window3 .quiesced).matching = [⟨0x2000, 0x2000 + 128⟩] ∧
    (window3 .draining).matching = [⟨0x1000, 0x1000 + 32⟩, ⟨0x2000, 0x2000 + 128⟩] ∧
    ((0x1000 ≤ readRequest.addr.toNat ∧ readRequest.addr.toNat < 0x1000 + 32) ∧
      classify (withWindow3 .active).windows readRequest = .window 3) ∧
    (let at_ := fun (a : Addr) (z : ReqSize) => classify (withWindow3 .active).windows
       { kind := .read, id := 0, addr := a, size := z, enables := 0, data := 0 }
     at_ 0x1000 .b4 = .window 3 ∧ at_ 0x101C .b8 = .window 3 ∧ at_ 0x1020 .b4 = .outside ∧ at_ 0xFFC .b4 = .outside ∧
       at_ 0xFFC .b8 = .straddling) :=
  ⟨withWindow3_disjoint _ (by decide), by decide +kernel⟩

/-- Whether a treatment settles its request. -/
def settles : Treated → Bool
  | .settled _ => true
  | .waits _ => false

theorem exists_of_settles {t : Treated} (h : settles t = true) : ∃ u, t = .settled u := by
  cases t with
  | settled u => exact ⟨u, rfl⟩
  | waits _ => cases h

/-- A legal request is treated at its taking: in ACTIVE it is settled, in ARMING it waits (R45, R46). -/
theorem witness_RequestTakenByClass_legal :
    let d : CounterOp :=
      { window := 3, plane := .direct, index := 1, op := { kind := .read, lane := 0, lanes := 2, x := 0 } }
    (classify (presenting readRequest).windows readRequest = .window 3 ∧
      decodeCounter 3 ((presenting readRequest).config 3) readRequest = some d) ∧
    (∃ u, (presenting readRequest).treat d 5 0 = .settled u) ∧
    ∃ why, ({ withWindow3 .arming with channel := [readRequest] } : State).treat d 5 0 = .waits why :=
  ⟨by decide +kernel, exists_of_settles (by decide +kernel), .arming, rfl⟩

theorem witness_AccessFormDecodes :
    (1 < wide.count ∧ wide.storageRange.overlaps wide.aliasRange = false ∧
      planeOperation .add addRequest.kind = some .add ∧
      addRequest.addr.toNat = wide.planeBase .add + wide.width.bytes * 1 + 4 * 1 ∧
      wide.width.bytes ∣ wide.planeBase .add ∧ addRequest.size.bytes ∣ 4 * 1 ∧
      4 * 1 + addRequest.size.bytes ≤ wide.width.bytes ∧ addRequest.enables.toNat = 2 ^ addRequest.size.bytes - 1) ∧
    (wide.planeOf 0x2048 = some .max ∧ wide.planeOf 0x2060 = some .take ∧ (16 < ReqSize.b32.bytes) ∧
      ReqSize.b4.bytes < wide.width.bytes ∧ wide.width.bytes < ReqSize.b16.bytes) := by
  decide +kernel

theorem witness_CounterRequestTreated :
    ((withEntry (.fault .active) (.strandedWrite 9)).window 3).state = .fault .active ∧
    isStranded ((withEntry (.fault .active) (.strandedWrite 9)).counterEntry 3 1) = true ∧
    isStranded ((withEntry (.fault .active) (.strandedWrite 9)).counterEntry 3 2) = false ∧
    ((withWindow3 .arming).window 3).state = .arming ∧ ((withWindow3 .draining).window 3).state = .draining ∧
    ((withWindow3 .quiesced).window 3).state = .quiesced ∧ ((withWindow3 .active).window 3).state = .active := by
  decide +kernel

/-- Every entry holds the same kind of work, on counters of window 4. -/
def fullTable (b : Body) : State :=
  { State.reset with entries := Vector.ofFn (fun e => some { entryOf b with window := 4, index := e.val }) }

theorem fullTable_entry (b : Body) (e : EntryNo) :
    (fullTable b).entry e = some { entryOf b with window := 4, index := e.val } := by
  simp [State.entry, fullTable]

theorem fullTable_lookup (b : Body) : (fullTable b).lookup 3 1 = none := by
  refine List.find?_eq_none.mpr (fun e _ => ?_)
  rw [fullTable_entry]
  simp

theorem witness_CounterRequestTreated_full :
    (let s := fullTable (.strandedWrite 9)
     s.lookup 3 1 = none ∧ s.latch 5 = .empty ∧ s.clean = [] ∧ (∀ e, s.entry e ≠ none) ∧
      ∀ e, isStranded (s.entry e) = true) ∧
    (let s := fullTable (.write 9 false)
     s.lookup 3 1 = none ∧ s.latch 5 = .empty ∧ s.clean = [] ∧ (∀ e, s.entry e ≠ none) ∧
      isStranded (s.entry 0) = false) := by
  refine ⟨⟨fullTable_lookup _, by decide +kernel, rfl, fun e => ?_, fun e => ?_⟩,
    fullTable_lookup _, by decide +kernel, rfl, fun e => ?_, ?_⟩
  all_goals
    rw [fullTable_entry]
    first | rfl | simp

theorem witness_CounterRequestTreated_offer :
    let whole : Operation := { kind := .read, lane := 0, lanes := 2, x := 0 }
    let low : Operation := { whole with lanes := 1 }
    let full := { (withEntry .active (.fetch 0 false .resolve)) with
      entries := ((withEntry .active (.fetch 0 false .resolve)).entries.set 1
        (some { entryOf (.fetch 0 false .resolve) with index := 2, waiters := List.replicate 64 (.capture 0) })) }
    (withWindow3 .active).offerLack 3 1 .read = none ∧ (withWindow3 .active).offerLack 3 1 .add = none ∧
    full.offerLack 3 1 .read = some .noWaiter ∧ (withWindow3 .active).latch 5 = .empty ∧
    (low.lane = 0 ∧ low.lanes < ((withWindow3 .active).config 3).width.lanes) ∧
    ((withWindow3 .active).config 3).width.lanes ≤ whole.lanes ∧
    ((withWindow3 .active).setLatch 5 (.filled 3 1 1 9)).latch 5 = .filled 3 1 1 9 := by
  decide +kernel

/-- The worked case of R56: a READ of lane 1 under a latch that begins at lane 2; and a latch of another counter. -/
theorem witness_CounterRequestTreated_unserved :
    let o : Operation := { kind := .read, lane := 1, lanes := 1, x := 0 }
    ((withWindow3 .active).setLatch 5 (.pending 3 1 2 0)).unserved 3 1 o 5 ∧
    ((withWindow3 .active).setLatch 5 (.filled 3 0 1 9)).unserved 3 1 o 5 :=
  ⟨.inr (.inr (.inr ⟨3, 1, 2, .inl ⟨0, State.latch_setLatch_same _ _ _⟩, by decide⟩)),
    .inr (.inr (.inr ⟨3, 0, 1, .inr ⟨9, State.latch_setLatch_same _ _ _⟩, by decide⟩))⟩

theorem witness_HoldRetryAndDelivery :
    (∃ s : State, s.hold = none) ∧
    (∃ (s : State) (h : Held) (t : State), s.hold = some h ∧
      s.treat h.decoded h.request.id h.link = .settled t) ∧
    (∃ (s : State) (h : Held) (why : HoldReason), s.hold = some h ∧
      s.treat h.decoded h.request.id h.link = .waits why) ∧
    (∃ (s : State) (id : UpId), s.presented = some id) ∧ ∃ s : State, s.presented = none :=
  ⟨⟨State.reset, rfl⟩, ⟨{ State.reset with hold := some heldRead }, heldRead, _, rfl, rfl⟩,
    ⟨{ withWindow3 .arming with hold := some heldRead }, heldRead, .arming, rfl, rfl⟩,
    ⟨{ State.reset with presented := some 2 }, 2, rfl⟩, ⟨State.reset, rfl⟩⟩

/-- ID 2 has a READY response, ID 1 none. -/
def readyAt2 : State :=
  State.reset.setList 2 { records := [{ key := 0, kind := .write, size := 4, lane := 0, source := none
                                        answer := some { status := .done, data := [] } }], nextKey := 1 }

theorem witness_ArbiterPresentsNextReady :
    (readyAt2.presented = none ∧ readyAt2.chooseResponse.presented = some 2) ∧
    (State.reset.presented = none ∧ State.reset.chooseResponse.presented = none) := by
  decide +kernel

/-- R51: what is sent for ID 2 is its head record's answer. -/
theorem witness_ArbiterPresentsNextReady_sent :
    let s := { readyAt2 with presented := some 2 }
    s.presented ≠ none ∧ s.headReady 2 = true ∧ s.headReady 3 = false ∧
      s.responseOut = some (2, { status := .done, data := [] }) ∧ readyAt2.responseOut = none := by
  decide +kernel

theorem witness_ResponsesStayInOrder : ∃ (c : Instr) (s t : State), c ≠ .hardReset ∧ exec c s = .next t :=
  ⟨.responseDelivery, { readyAt2 with presented := some 2 }, _, by decide, rfl⟩

theorem witness_LatchServesHigherLanes :
    let o : Operation := { kind := .read, lane := 1, lanes := 1, x := 0 }
    let s := withWindow3 .active
    o.kind = .read ∧ 1 ≤ o.lane ∧ 1 ≤ o.lane ∧ o.lane + o.lanes ≤ (s.config 3).width.lanes ∧
      (s.setLatch 5 (.filled 3 1 1 (7 / 2 ^ (32 * 1)))).latch 5 = .filled 3 1 1 (7 / 2 ^ (32 * 1)) ∧
      (s.setLatch 5 (.pending 3 1 1 0)).latch 5 = .pending 3 1 1 0 := by
  decide +kernel

theorem witness_AddByPolicy : wide.policy = .wrap ∧ (addOp 1 0xFF).kind = .add ∧ narrow.policy = .saturate := by
  decide

theorem witness_SubMaxTake : (subOp 0 3).kind = .sub ∧
    ({ kind := .max, lane := 0, lanes := 1, x := 3 } : Operation).kind = .max ∧
    ({ kind := .take, lane := 0, lanes := 1, x := 0 } : Operation).kind = .take := by
  decide

theorem witness_SetReplacesLanes :
    let o : Operation := { kind := .set, lane := 1, lanes := 1, x := 2 ^ 32 - 1 }
    o.kind = .set ∧ o.x < 2 ^ (32 * o.lanes) := by
  decide

theorem witness_GatheredRunEqualsSequence : 2 ^ 64 - 1 < wide.width.modulus ∧ wide.policy = .wrap ∧
    5 < narrow.width.modulus ∧ narrow.policy = .saturate := by
  decide

theorem witness_ValuesStayInWidth :
    let o : Operation := { kind := .max, lane := 0, lanes := 2, x := 2 ^ 64 - 1 }
    7 < wide.width.modulus ∧ o.x < 2 ^ (32 * o.lanes) ∧ o.lane + o.lanes ≤ wide.width.lanes ∧ o.lane = 0 := by
  decide

theorem witness_FirstOperationAllocates :
    let s := withWindow3 .active
    s.lookup 3 1 = none ∧ s.earlyCapture 3 1 .add = false ∧ s.earlyCapture 3 1 .read = false ∧ s.entry 0 = none ∧
      ∀ f < (0 : EntryNo), s.entry f ≠ none := by
  decide +kernel

theorem witness_AcceptanceByEntryState :
    (let s := { withEntry .active (.held 7 false) with clean := [0] }
     s.lookup 3 1 = some 0 ∧ s.entry 0 = some (entryOf (.held 7 false)) ∧ s.earlyCapture 3 1 .add = false) ∧
    (let s := { withEntry .active (.accum 7 false) with dirty := [0] }
     s.lookup 3 1 = some 0 ∧ s.entry 0 = some (entryOf (.accum 7 false)) ∧ s.earlyCapture 3 1 .add = false ∧
       s.earlyCapture 3 1 .take = false) ∧
    (let s := { withEntry .active (.fetch 7 false .flush) with issue := [0] }
     s.lookup 3 1 = some 0 ∧ s.entry 0 = some (entryOf (.fetch 7 false .flush)) ∧
       (entryOf (.fetch 7 false .flush)).waiters = [] ∧ s.earlyCapture 3 1 .sub = false) ∧
    (owedPart.lookup 3 1 = some 0 ∧ (owedPart.entry 0).map (·.waiters.length) = some 1 ∧
      owedPart.earlyCapture 3 1 .add = false) := by
  decide +kernel

/-- Every entry is clean, on counters of window 4. -/
def allClean : State := { fullTable (.held 7 false) with clean := List.finRange 256 }

theorem allClean_entry (e : EntryNo) :
    allClean.entry e = some { entryOf (.held 7 false) with window := 4, index := e.val } :=
  fullTable_entry _ e

theorem witness_AcceptanceByEntryState_reclaim :
    allClean.lookup 3 1 = none ∧ (∀ f, allClean.entry f ≠ none) ∧ allClean.clean = 0 :: (List.finRange 256).tail ∧
      allClean.snap.state = .idle := by
  refine ⟨List.find?_eq_none.mpr (fun e _ => ?_), fun f => ?_, by decide +kernel, rfl⟩
  all_goals
    rw [allClean_entry]
    simp

/-- Memory where counter (3, 1) holds 7. -/
def mem7 : WinNo → Nat → Nat := fun w i => if w = 3 ∧ i = 1 then 7 else 0

theorem withEntry_one (st : WinState) (b : Body) : (withEntry st b).oneEntryEach := by
  intro e f x y hx hy _ _
  rw [withEntry_entry] at hx hy
  split at hx <;> split at hy <;> simp_all

theorem mem7_fits (st : WinState) (b : Body) : (withEntry st b).memFits mem7 := by
  intro w i
  have h : ∀ l : Width, 7 < l.modulus := by intro l; cases l <;> decide
  have h0 : ∀ l : Width, 0 < l.modulus := by intro l; cases l <;> decide
  unfold mem7
  split
  · exact h _
  · exact h0 _

theorem witness_AcceptanceKeepsCoherence :
    let s := { withEntry .active (.held 7 false) with clean := [0] }
    s.oneEntryEach ∧ s.cleanAgrees mem7 ∧ s.memFits mem7 ∧ s.accumHasNoWaiters ∧ s.offerLack 3 1 .sub = none := by
  intro s
  refine ⟨withEntry_one .active (.held 7 false), ⟨?_, ?_⟩, mem7_fits .active (.held 7 false), ?_, ?_⟩
  · intro e x v h hb
    have h' : (withEntry .active (.held 7 false)).entry e = some x := h
    rw [withEntry_entry] at h'
    split at h'
    · cases h'
      cases hb
      rfl
    · cases h'
  · intro e he
    have : e = 0 := List.mem_singleton.mp he
    subst this
    exact ⟨_, 7, withEntry_entry _ _ 0, rfl⟩
  · intro e x d m h hb
    have h' : (withEntry .active (.held 7 false)).entry e = some x := h
    rw [withEntry_entry] at h'
    split at h'
    · cases h'
      cases hb
    · cases h'
  · decide +kernel

theorem witness_FetchReturnKeepsCoherence :
    let s := withEntry .active (.fetch 3 false .flush)
    s.oneEntryEach ∧ s.memFits mem7 ∧ s.entry 0 = some (entryOf (.fetch 3 false .flush)) :=
  ⟨withEntry_one _ _, mem7_fits _ _, withEntry_entry _ _ 0⟩

/-- Right after reset nothing is in the table, in its lists or in the tags. -/
theorem reset_tableConsistent : State.reset.tableConsistent := by
  have ht : ∀ g, State.reset.tagAt g = none := fun g => by simp [State.tagAt, State.reset]
  refine ⟨?_, ?_, by decide +kernel, ⟨List.nodup_nil, ?_⟩, ⟨List.nodup_nil, ?_⟩, ⟨List.nodup_nil, ?_⟩, ?_, ?_⟩
  all_goals simp [State.oneEntryEach, reset_entry, ht]
  all_goals simp [State.reset]

theorem witness_TableInvariantsKept : ∃ s t : State, s.tableConsistent ∧ step s = .next t :=
  ⟨{ State.reset with pending := [.requestTaken readRequest] }, _, reset_tableConsistent, rfl⟩

theorem witness_CleanEntriesAgree : ∃ (s t : State) (mem : WinNo → Nat → Nat), s.tableConsistent ∧ s.cleanAgrees mem ∧
    (∀ c rest g data, s.pending = c :: rest → responseOf c = some (g, true, data) → s.responseAgrees mem g data) ∧
    step s = .next t := by
  refine ⟨{ State.reset with pending := [.fetchReturn 0 5] }, _, mem7, reset_tableConsistent, ⟨?_, ?_⟩, ?_, rfl⟩
  · intro e x v h
    cases (reset_entry e).symm.trans h
  · intro e h
    cases h
  · intro c rest g data _ _ r e x h
    have : State.reset.tagAt g = some r := h
    simp [State.tagAt, State.reset] at this

theorem witness_FetchReturns_waiters :
    let x : Entry := { entryOf (.fetch 3 true .resolve) with
      waiters := [.op { kind := .read, lane := 0, lanes := 2, x := 0 } 5 0, .capture 16], captureRequested := true }
    let s := State.setList (((withWindow3 .active).setEntry 0 (some x)).setSlot 16 (.requested 1))
      5 { records := [owedRecord], nextKey := 1 }
    s.entry 0 = some x ∧ x.retry = false ∧ 7 < (s.config 3).width.modulus ∧ s.slot 16 = .requested 1 ∧
      (s.list 5).records = [owedRecord] ∧ x.waiters.filter isCapture = [.capture 16] := by
  decide +kernel

/-- The waiting READ is the source of ID 5's latch, which takes lane 1 of the value it finds. -/
theorem witness_FetchReturns_latch :
    let s := owedPart.setLatch 5 (.pending 3 1 1 0)
    (s.entry 0).map (·.waiters) = some [.op { kind := .read, lane := 0, lanes := 2, x := 0 } 5 0] ∧
      s.latch 5 = .pending 3 1 1 0 ∧ (s.fetched 0 (7 * 2 ^ 32 + 1)).latch 5 = .filled 3 1 1 7 := by
  decide +kernel

/-- Another entry of the window stays under retry, so the window stays in FAULT. -/
theorem witness_FetchReturns_others :
    let s := ((withWindow3 (.fault .active)).setEntry 0
      (some { entryOf (.fetch 3 false .flush) with retry := true })).setEntry 1
        (some { entryOf (.strandedWrite 9) with index := 2 })
    (s.entry 0).map (·.retry) = some true ∧ (s.window 3).state = .fault .active ∧
      isStranded (s.entry 1) = true ∧ ((s.fetchOk 0 5).window 3).state = .fault .active := by
  decide +kernel

theorem witness_FetchReturns_retry :
    let s := (withWindow3 (.fault .draining)).setEntry 0 (some { entryOf (.fetch 3 false .flush) with retry := true })
    s.entry 0 = some { entryOf (.fetch 3 false .flush) with retry := true } ∧
      (s.window 3).state = .fault .draining := by
  decide +kernel

theorem witness_WriteBackReturns_retry :
    let s := (withWindow3 (.fault .active)).setEntry 0 (some { entryOf (.write 3 true) with retry := true })
    s.entry 0 = some { entryOf (.write 3 true) with retry := true } ∧ (s.window 3).state = .fault .active := by
  decide +kernel

theorem witness_FetchReturns :
    (∃ s : State, s.tagAt 0 = some (tableRecord .read) ∧ s.softInterval = false) ∧
    (∀ (st : WinState) (d : Nat) (q : FetchCause),
      (withEntry st (.fetch d false q)).entry 0 = some (entryOf (.fetch d false q))) ∧
    (withEntry .active (.fetch 3 false .flush)).draining 3 = false ∧
    (withEntry .draining (.fetch 3 false .resolve)).draining 3 = true ∧ 7 < wide.width.modulus :=
  ⟨⟨tagged State.reset .read, by decide +kernel⟩, fun _ _ _ => withEntry_entry _ _ 0, by decide +kernel,
    by decide +kernel, by decide⟩

theorem witness_WriteBackReturns :
    (∃ s : State, s.tagAt 0 = some (tableRecord .write) ∧ s.softInterval = false) ∧
    (∀ (st : WinState) (v : Nat) (r : Bool),
      (withEntry st (.write v r)).entry 0 = some (entryOf (.write v r))) ∧
    (withEntry .active (.write 3 false)).draining 3 = false ∧
    (withEntry .draining (.write 3 false)).draining 3 = true :=
  ⟨⟨tagged State.reset .write, by decide +kernel⟩, fun _ _ _ => withEntry_entry _ _ 0, by decide +kernel,
    by decide +kernel⟩

/-- An arbiter state with the three claims there or not. -/
def claimed (p t k : Bool) (ptr : Claimant) (mark : Bool) : State :=
  { withEntry .active (.write 3 false) with
    channel := if p then [outsideRequest] else [], issue := if t then [0] else [], arbPtr := ptr
    secondGrant := mark, lowMark := 300
    snap := if k then
        { Snapshot.reset with
          state := .running none
          job := some { window := 3, first := 0, count := 2, dest := 0x10000, mode := .copy, cursor := 0 }
          slots := Snapshot.reset.slots.set 16 (.captured 0 5), writeOrder := [16] }
      else Snapshot.reset }

theorem witness_ArbiterChoosesInTurn :
    (∀ p t k ptr mark, (claimed p t k ptr mark).downReq = none ∧
      (claimed p t k ptr mark).softInterval = false ∧ (claimed p t k ptr mark).rstAsserted = false) ∧
    (∀ p t k, (claimed p t k .snap false).eligible .pass = p ∧ (claimed p t k .snap false).eligible .table = t ∧
      (claimed p t k .snap false).eligible .snap = k) ∧
    ((claimed false true false .table true).pressure = true ∧
      (claimed false true false .table true).eligible .table = true) := by
  refine ⟨?_, ?_, ?_⟩
  · intro p t k ptr mark
    exact ⟨rfl, rfl, rfl⟩
  · decide +kernel
  · decide +kernel

theorem witness_GrantIssues :
    (State.reset.chosen = none) ∧
    (let s := { withEntry .active (.fetch 3 false .flush) with issue := [0] }
     s.chosen = some .table ∧ s.lowestTag = some 0 ∧ s.entry 0 = some (entryOf (.fetch 3 false .flush))) ∧
    (let s := claimed false true false .snap false
     s.chosen = some .table ∧ s.lowestTag = some 0 ∧ s.entry 0 = some (entryOf (.write 3 false))) ∧
    (let s := claimed false false true .pass false
     s.chosen = some .snap ∧ s.lowestTag = some 0 ∧ s.snap.writeOrder = [16] ∧ s.snap.job ≠ none ∧
       s.slot 16 = .captured 0 5) ∧
    (let s := claimed true false false .snap false
     s.chosen = some .pass ∧ s.lowestTag = some 0 ∧ s.channel = [outsideRequest]) := by
  decide +kernel

/-- A pass-through tag record. -/
def passRecord : TagRecord := { owner := .pass 4 0, kind := .read, addr := 0x900000, size := 16 }

theorem witness_PassThroughCompletes :
    (State.reset.setTag 1 (some passRecord)).tagAt 1 = some passRecord := State.tagAt_setTag_same _ _ _

/-- A destination write's tag record. -/
def snapRecord : TagRecord := { owner := .snap 16, kind := .write, addr := 0x10000, size := 8 }

/-- An ARMING window with a PASS tag in its ranges, and with one outside them. -/
theorem witness_PassThroughCompletes_arming :
    let inside := (withWindow3 .arming).setTag 1 (some { passRecord with addr := 0x1000 })
    let outside := (withWindow3 .arming).setTag 1 (some passRecord)
    (inside.window 3).state = .arming ∧ inside.armingChecks.window 3 = inside.window 3 ∧
      outside.armingChecks.window 3 = window3 .active := by
  decide +kernel

theorem witness_PassThroughCompletes_inside :
    ((withWindow3 .arming).setTag 1 (some { passRecord with addr := 0x1000 })).passInRanges 3 := by
  refine ⟨1, _, 4, 0, State.tagAt_setTag_same _ _ _, rfl, ⟨0x1000, 0x1000 + 32⟩, ?_, 0x1000, ?_⟩
  · decide +kernel
  · decide

theorem witness_ResponsesAbsorbed :
    (let s := { tagged State.reset .write with engine := .executing .waitTags }
     s.softInterval = true ∧ s.tagAt 0 = some (tableRecord .write)) ∧
    (let s := { State.reset.setTag 1 (some snapRecord) with engine := .executing .waitTags }
     s.softInterval = true ∧ s.tagAt 1 = some snapRecord) ∧ State.reset.tagAt 3 = none := by
  decide +kernel

theorem witness_ReservationsKept :
    ∃ s t : State, s.reservesCovered ∧ step s = .next t :=
  ⟨{ tagged framed .read with pending := [.nop] }, _, by unfold State.reservesCovered; decide +kernel, rfl⟩

/-! ### Witnesses: windows and snapshots -/

theorem witness_WindowNumberChecked : framed.takesCommand = true ∧ 15 < (16 : BitVec 8).toNat := by decide

/-- A WINDOW LOAD whose fields pass, with room for overlaps. -/
def load3 : LoadArgs :=
  { window := 2, storage := 0x1000, count := 4, lanes := 2, aliasBase := 0x2000, policy := .saturate, exponent := 3 }

theorem witness_WindowLoads :
    (framed.takesCommand = true ∧ load3.window.toNat = (2 : WinNo).val ∧ (framed.window 2).state = .empty ∧
      loadFieldsOk load3 ∧ ¬ framed.loadMeets load3 ∧ Width.lanes .two = load3.lanes.toNat) ∧
    ¬ loadFieldsOk { load3 with exponent := 65 } ∧ (withWindow3 .loaded).loadMeets load3 ∧
    ((framed.setWindow 2 (window3 .loaded)).window 2).state ≠ .empty := by
  have hr : ∀ w, framed.window w = { state := .empty, config := none } := by
    intro w
    simp [State.window, framed, State.reset]
  refine ⟨⟨by decide, by decide, by rw [hr], by unfold loadFieldsOk; decide +kernel, ?_, by decide⟩,
    by unfold loadFieldsOk; decide +kernel, ?_, by decide +kernel⟩
  · rintro (⟨g, h, hg, x, hx⟩ | ⟨g, _, w, c, hw, _⟩ | ⟨g, _, b, hb, _⟩)
    · have e1 : g = ⟨0x1000, 0x1000 + 32⟩ ∧ h = ⟨0x2000, 0x2000 + 128⟩ := by
        have : loadRanges load3 = [⟨0x1000, 0x1000 + 32⟩, ⟨0x2000, 0x2000 + 128⟩] := by decide +kernel
        rw [this] at hg
        simp at hg
        exact ⟨hg.1.symm, hg.2.symm⟩
      obtain ⟨rfl, rfl⟩ := e1
      simp only at hx
      omega
    · rw [hr] at hw
      exact hw rfl
    · exact hb rfl
  · refine Or.inr (Or.inl ⟨⟨0x1000, 0x1000 + 32⟩, by decide +kernel, 3, wide, ?_, ?_, ⟨0x1000, 0x1000 + 32⟩, ?_,
      0x1000, ?_⟩)
    · decide +kernel
    · decide +kernel
    · decide +kernel
    · decide

theorem witness_WindowArms :
    framed.takesCommand = true ∧ ((withWindow3 .loaded).window 3).state = .loaded ∧
    ((withWindow3 .quiesced).window 3).state = .quiesced ∧ ((withWindow3 .active).window 3).state = .active ∧
    ((withWindow3 .arming).window 3).state = .arming ∧
    (withWindow3 .arming).passTagIn 3 = false ∧
    ((withWindow3 .arming).setTag 1 (some { passRecord with addr := 0x1000 })).passTagIn 3 = true := by
  decide +kernel

theorem witness_WindowArms_inFlight :
    let s := (withWindow3 .loaded).setTag 1 (some { passRecord with addr := 0x1000 })
    ∃ g r id link, s.tagAt g = some r ∧ r.owner = .pass id link ∧
      ∃ h ∈ (s.config 3).ranges, Range.shares ⟨r.addr.toNat, r.addr.toNat + r.size⟩ h := by
  refine ⟨1, _, 4, 0, State.tagAt_setTag_same _ _ _, rfl, ⟨0x1000, 0x1000 + 32⟩, ?_, 0x1000, ?_⟩
  · decide +kernel
  · decide

theorem witness_WindowDrains :
    framed.takesCommand = true ∧ ((withWindow3 .active).window 3).state = .active ∧
    ((withWindow3 .loaded).window 3).state ≠ .active ∧
    ((claimed false false true .pass false).window 3).state = .active ∧
    (claimed false false true .pass false).snap.state ≠ .idle ∧ (withWindow3 .active).snap.state = .idle ∧
    ((withWindow3 .draining).window 3).state = .draining ∧ (∀ e, (withWindow3 .draining).entry e = none) ∧
    (withWindow3 .draining).hold = none ∧ (withEntry .draining (.held 7 true)).entry 0 ≠ none := by
  decide +kernel

theorem witness_WindowReleasesAndReports :
    framed.takesCommand = true ∧ ((withWindow3 .quiesced).window 3).state = .quiesced ∧
    ((withWindow3 .loaded).window 3).state = .loaded ∧ ((withWindow3 .draining).window 3).state = .draining := by
  decide +kernel

theorem witness_WindowsStayDisjoint : ∃ s t : State, s.windowsDisjoint ∧ step s = .next t :=
  ⟨{ withWindow3 .active with pending := [.nop] }, _, withWindow3_disjoint .active (by decide), rfl⟩

/-- A SNAPSHOT START on window 3 whose fields pass. -/
def start3 : StartArgs := { window := 3, first := 1, count := 3, dest := 0x10000, mode := .copy }

theorem witness_SnapshotStarts :
    let s := withWindow3 .active
    (s.takesCommand = true ∧ start3.window.toNat = (3 : WinNo).val ∧ s.snap.state = .idle ∧
      (s.window 3).state = .active) ∧
    s.startFieldsOk 3 start3 ∧ ¬ s.startFieldsOk 3 { start3 with count := 4 } ∧
    s.startMeets 3 { start3 with dest := 0x1008 } ∧ ((withWindow3 .loaded).window 3).state ≠ .active ∧
    (claimed false false true .pass false).snap.state ≠ .idle := by
  refine ⟨by decide +kernel, by unfold State.startFieldsOk; decide +kernel,
    by unfold State.startFieldsOk; decide +kernel, ⟨3, wide, by decide +kernel, by decide +kernel,
      ⟨0x1000, 0x1000 + 32⟩, by decide +kernel, 0x1008, ?_⟩, by decide +kernel, by decide +kernel⟩
  have a1 : (withWindow3 .active).startRegion 3 { start3 with dest := 0x1008 } = ⟨0x1008, 0x1008 + 24⟩ := by
    decide +kernel
  rw [a1]
  decide

theorem witness_SnapshotStarts_apart : ¬ (withWindow3 .active).startMeets 3 start3 := by
  rintro ⟨v, c, hv, hc, h, hh, x, h1, h2, h3, h4⟩
  have hw : ∀ w, (withWindow3 .active).window w =
      if 3 = w then window3 .active else { state := .empty, config := none } := by
    intro w
    refine (State.window_setWindow _ _ _ _).trans ?_
    congr 1
    simp [State.window, framed, State.reset]
  rw [hw] at hc
  have a1 : (withWindow3 .active).startRegion 3 start3 = ⟨0x10000, 0x10000 + 24⟩ := by decide +kernel
  have a2 : wide.ranges = [⟨0x1000, 0x1000 + 32⟩, ⟨0x2000, 0x2000 + 128⟩] := by decide +kernel
  rw [a1] at h1 h2
  split at hc
  · cases hc
    rw [a2] at hh
    simp at hh
    rcases hh with rfl | rfl <;> (simp only at h1 h4; omega)
  · cases hc

theorem witness_WalkStepsAndRetries :
    (∃ s : State, s.snap.job ≠ none ∧ s.softInterval = false ∧ s.snap.state.isRunning = false) ∧
    (∃ s : State, s.snap.job ≠ none ∧ s.softInterval = false ∧ s.slot 16 ≠ .free) ∧
    (let s := (claimed false false true .pass false).setSlot 16 .free
     s.snap.state.isRunning = true ∧ s.slot 16 = .free ∧ s.softInterval = false ∧
       s.snap.job = some { window := 3, first := 0, count := 2, dest := 0x10000, mode := .copy, cursor := 0 } ∧
       (0 : Nat) ∉ s.snap.exceptions ∧ s.walkLackOf 3 0 = none) ∧
    (fullTable (.write 9 false)).walkLackOf 3 1 = some .noEntry ∧
    ∃ s : State, s.snap.state = .running (some .noEntry) := by
  refine ⟨⟨{ claimed false false true .pass false with
      snap := { (claimed false false true .pass false).snap with state := .idle } }, by decide +kernel⟩,
    ⟨claimed false false true .pass false, by decide +kernel⟩, by decide +kernel, ?_,
    ⟨{ State.reset with snap := { Snapshot.reset with state := .running (some .noEntry) } }, rfl⟩⟩
  have h1 : (fullTable (.write 9 false)).lowestFree = none := by
    refine List.find?_eq_none.mpr (fun e _ => ?_)
    rw [fullTable_entry]
    simp
  have h2 : (fullTable (.write 9 false)).canObtain = false := by
    rw [State.canObtain, h1]
    rfl
  simp [State.walkLackOf, fullTable_lookup, h2]

/-- A snapshot of window 3 in a state, with every slot FREE and the cursor at its end. -/
def atEnd (st : SnapState) : State :=
  { framed with snap := { Snapshot.reset with
      state := st
      job := some { window := 3, first := 0, count := 2, dest := 0x10000, mode := .copy, cursor := 2 } } }

/-- A running snapshot of counters 0 and 1 of window 3, its cursor at 1, its slots FREE. -/
def walking (b : Body) (mode : SnapMode) (exceptions : List Nat) : State :=
  { withEntry .active b with
    snap := { Snapshot.reset with
      state := .running none
      job := some { window := 3, first := 0, count := 2, dest := 0x10000, mode := mode, cursor := 1 }
      exceptions := exceptions } }

theorem witness_WalkStepsAndRetries_cursor :
    ((walking (.held 7 true) .copy [1]).snap.state.isRunning = true ∧
      (walking (.held 7 true) .copy [1]).slot 16 = .free ∧
      1 ∈ (walking (.held 7 true) .copy [1]).snap.exceptions) ∧
    (atEnd (.running none)).snap.state.isRunning = true ∧ (atEnd (.running none)).slot 16 = .free := by
  decide +kernel

theorem witness_WalkStepsAndRetries_captures :
    ((walking (.held 7 true) .copy []).lookup 3 0 = none ∧ (walking (.held 7 true) .copy []).entry 1 = none ∧
      ∀ f < (1 : EntryNo), (walking (.held 7 true) .copy []).entry f ≠ none) ∧
    ((walking (.accum 7 true) .copy []).lookup 3 1 = some 0 ∧
      (walking (.accum 7 true) .copy []).entry 0 = some (entryOf (.accum 7 true))) ∧
    (let s := (walking (.write 7 false) .copyClear []).setSlot 16 (.requested 1)
     s.slot 16 = .requested 1 ∧ s.clearing = true ∧ s.entry 0 = some (entryOf (.write 7 false))) ∧
    (let s := (walking (.held 7 false) .copy []).setSlot 2 (.requested 1)
     s.slot 2 = .requested 1 ∧ s.clearing = false ∧ s.entry 0 = some (entryOf (.held 7 false))) ∧
    (let s := (walking (.fetch 7 false .resolve) .copyClear [])
     s.earlyCapture 3 1 .add = true ∧ s.earlyCapture 3 1 .read = false ∧ s.slot 0 = .free ∧ (0 : SlotNo) ≠ 16 ∧
       ∀ j < (0 : SlotNo), s.slot j ≠ .free) := by
  decide +kernel

/-- A running snapshot over a table full of clean entries. -/
def fullWalk : State := { allClean with snap := (walking (.held 7 true) .copy []).snap }

theorem fullWalk_entry (e : EntryNo) :
    fullWalk.entry e = some { entryOf (.held 7 false) with window := 4, index := e.val } := by
  simp [State.entry, fullWalk, allClean, fullTable]

theorem witness_WalkStepsAndRetries_reclaim :
    fullWalk.lookup 3 1 = none ∧ fullWalk.allocates 0 (List.finRange 256).tail ∧
      fullWalk.earlyCapture 3 1 .add = true ∧ fullWalk.slot 0 = .free := by
  refine ⟨List.find?_eq_none.mpr (fun e _ => ?_), .inr ⟨fun f => ?_, by decide +kernel⟩, by decide +kernel,
    by decide +kernel⟩
  all_goals
    rw [fullWalk_entry]
    simp

/-- An update and the walk's capture of a counter without entry: with an entry FREE. -/
theorem witness_WalkStepsAndRetries_allocate :
    let s := walking (.held 7 true) .copy []
    (s.lookup 3 0 = none ∧ s.allocates 1 s.clean) ∧
    ((s.setEntry 0 none).lookup 3 1 = none ∧ (s.setEntry 0 none).earlyCapture 3 1 .add = true) :=
  ⟨⟨by decide +kernel, .inl ⟨by decide +kernel, by decide +kernel, rfl⟩⟩, by decide +kernel⟩

/-- The lacks of an update with early capture (R66, R136): no place, no slot, no waiter record. -/
theorem witness_CounterRequestTreated_lacks :
    let noPlace := walking (.held 7 true) .copy (List.range' 2 16)
    let noSlot := { walking (.held 7 true) .copy [] with
      snap := { (walking (.held 7 true) .copy []).snap with slots := Vector.replicate 17 (.requested 0) } }
    let s := walking (.fetch 7 true .resolve) .copy []
    let noWaiter := s.setEntry 1 (some { entryOf (.fetch 7 true .resolve) with
      index := 3, waiters := List.replicate 63 (.capture 0) })
    noPlace.earlyCapture 3 1 .add = true ∧ noPlace.offerLack 3 1 .add = some .noExceptionPlace ∧
      noSlot.offerLack 3 1 .add = some .noCaptureSlot ∧ noWaiter.offerLack 3 1 .add = some .noWaiter ∧
      noWaiter.offerLack 3 1 .read = none ∧ noWaiter.freeWaiters = 1 ∧ s.offerLack 3 1 .add = none := by
  decide +kernel

theorem witness_CounterRequestTreated_needs :
    (withEntry .active (.accum 7 true)).recordsNeeded 3 1 .add false 0 ∧
    (withEntry .active (.accum 7 true)).recordsNeeded 3 1 .read false 1 ∧
    (withEntry .active (.fetch 7 true .flush)).recordsNeeded 3 1 .add true 2 ∧
    (withEntry .active (.write 7 true)).recordsNeeded 3 1 .add true 0 ∧
    (withWindow3 .active).recordsNeeded 3 1 .add false 0 ∧ (fullTable (.write 9 false)).noEntryFor 3 1 := by
  have hl : ∀ b, b = .accum 7 true ∨ b = .fetch 7 true .flush ∨ b = .write 7 true →
      (withEntry .active b).lookup 3 1 = some 0 := by
    rintro b (rfl | rfl | rfl) <;> decide +kernel
  refine ⟨.inr ⟨0, _, hl _ (.inl rfl), withEntry_entry _ _ 0, .inl ⟨⟨_, _, rfl⟩, rfl⟩⟩,
    .inr ⟨0, _, hl _ (.inl rfl), withEntry_entry _ _ 0, .inl ⟨⟨_, _, rfl⟩, rfl⟩⟩,
    .inr ⟨0, _, hl _ (.inr (.inl rfl)), withEntry_entry _ _ 0, .inr (.inl ⟨⟨_, _, _, rfl⟩, rfl⟩)⟩,
    .inr ⟨0, _, hl _ (.inr (.inr rfl)), withEntry_entry _ _ 0, .inr (.inr ⟨⟨_, _, .inr rfl⟩, rfl⟩)⟩,
    .inl ⟨by decide +kernel, rfl⟩, fullTable_lookup _, fun e => ?_, rfl⟩
  rw [fullTable_entry]
  simp

/-- A walk that lacks an entry finds one gone FREE. -/
theorem witness_WalkStepsAndRetries_due :
    let a : State := { walking (.held 7 true) .copy [] with
      snap := { (walking (.held 7 true) .copy []).snap with state := .running (some .noEntry) } }
    walkDue a (a.freeEntry 0) = true := by
  decide +kernel

theorem witness_SnapshotAborts :
    framed.takesCommand = true ∧ framed.snap.state = .idle ∧
    (claimed false false true .pass false).takesCommand = true ∧
    (claimed false false true .pass false).snap.state = .running none := by
  decide +kernel

theorem witness_SnapshotEndsAndReports :
    (∀ st, (atEnd st).snap.job = some { window := 3, first := 0, count := 2, dest := 0x10000, mode := .copy
                                        cursor := 2 } ∧ (atEnd st).snap.state = st ∧
      (atEnd st).takesCommand = true) ∧
    (∀ k, (atEnd (.running none)).slot k = .free) ∧ (∀ k, (atEnd (.aborting .aborted)).slot k = .free) ∧
    (∀ k, (atEnd (.aborting .failed)).slot k = .free) ∧ (claimed false false true .pass false).slot 16 ≠ .free := by
  refine ⟨fun st => ⟨rfl, rfl, rfl⟩, ?_, ?_, ?_, ?_⟩
  all_goals decide +kernel

theorem witness_DestinationWritesReturn :
    (let s := (claimed false false true .pass false).setTag 1 (some snapRecord)
     let u := s.setSlot 16 (.writing 0 5 1)
     u.tagAt 1 = some snapRecord ∧ u.softInterval = false ∧ u.slot 16 = .writing 0 5 1 ∧ u.snap.job ≠ none ∧
       u.snap.state = .running none) ∧
    (atEnd (.aborting .aborted)).snap.state = .aborting .aborted ∧ framed.snap.state = .idle := by
  decide +kernel

theorem witness_ErrorsStrand :
    (∃ s : State, s.tagAt 0 = some (tableRecord .read) ∧ s.softInterval = false) ∧
    (∃ s : State, s.tagAt 0 = some (tableRecord .write) ∧ s.softInterval = false) ∧
    (withEntry .active (.fetch 3 true .flush)).entry 0 = some (entryOf (.fetch 3 true .flush)) ∧
    (withEntry .active (.write 3 true)).entry 0 = some (entryOf (.write 3 true)) ∧
    (withEntry .active (.write 3 true)).snap.state = .idle :=
  ⟨⟨tagged State.reset .read, by decide +kernel⟩, ⟨tagged State.reset .write, by decide +kernel⟩,
    withEntry_entry _ _ 0, withEntry_entry _ _ 0, rfl⟩

/-- A READ of ID 5 waits on the fetch that fails, and is the source of ID 5's latch. -/
theorem witness_ErrorsStrand_waiters :
    let s := owedPart.setLatch 5 (.pending 3 1 1 0)
    (s.entry 0).map (·.body) = some (.fetch 0 false .resolve) ∧ (s.list 5).records = [owedRecord] ∧
      s.latch 5 = .pending 3 1 1 0 ∧ ((s.fetchFailed 0).list 5).records =
        [{ owedRecord with answer := some { status := .memfault, data := List.replicate 8 0 } }] := by
  decide +kernel

/-- Snapshots of window 3 and of another window when window 3 strands an entry. -/
theorem witness_FaultRecordKept_snapshot :
    let s := walking (.write 7 false) .copy []
    let aborting := fun q => { s with snap := { s.snap with state := .aborting q, failing := some 6 } }
    (s.window 3).state = .active ∧ (s.snap.job.map (·.window)) = some 3 ∧ s.snap.state = .running none ∧
      (s.enterFault 3 1).snap.lastResult = .failed ∧ (s.enterFault 3 1).snap.failing = some 1 ∧
      ((aborting .aborted).enterFault 3 1).snap.failing = some 1 ∧
      ((aborting .failed).enterFault 3 1).snap.failing = some 6 ∧
      (((s.setWindow 4 (window3 .active)).enterFault 4 1).snap = s.snap) ∧
      ((s.setSlot 2 (.captured 0 5)).enterFault 3 1).snap.state = .aborting .failed := by
  decide +kernel

theorem witness_ErrorsStrand_snapshot : (walking (.write 7 false) .copy []).strandFails 3 ∧
    ¬ (withEntry .active (.write 7 false)).strandFails 3 := by
  refine ⟨⟨.inl (by decide +kernel), ⟨none, rfl⟩, _, rfl, rfl⟩, ?_⟩
  rintro ⟨-, ⟨l, h⟩, -⟩
  cases h

theorem witness_FaultRecordKept :
    ((withWindow3 .active).window 3).state = .active ∧ ((withWindow3 .draining).window 3).state = .draining ∧
    ((withWindow3 (.fault .draining)).window 3).state = .fault .draining ∧ framed.faults.first = none ∧
    (framed.handFault .writeFailed 3 1).faults.first ≠ none ∧ framed.takesCommand = true := by
  decide +kernel

theorem witness_RetryReenters :
    framed.takesCommand = true ∧ ((withWindow3 .active).window 3).state = .active ∧
    ((withEntry (.fault .active) (.strandedWrite 9)).window 3).state = .fault .active ∧
    (withEntry (.fault .active) (.strandedWrite 9)).entry 0 = some (entryOf (.strandedWrite 9)) ∧
    (withEntry (.fault .active) (.strandedFetch 9 true .flush)).entry 0 =
      some (entryOf (.strandedFetch 9 true .flush)) :=
  ⟨by decide, by decide +kernel, by decide +kernel, withEntry_entry _ _ 0, withEntry_entry _ _ 0⟩

theorem witness_DiscardFrees :
    framed.takesCommand = true ∧ ((withWindow3 .active).window 3).state = .active ∧
    (let s := withEntry (.fault .draining) (.strandedWrite 9)
     (s.window 3).state = .fault .draining ∧ ∀ e x, s.entry e = some x → x.window = 3 → x.retry = false) ∧
    (let s := (withWindow3 (.fault .active)).setEntry 0 (some { entryOf (.write 9 false) with retry := true })
     (s.window 3).state = .fault .active ∧ ∃ e x, s.entry e = some x ∧ x.window = 3 ∧ x.retry = true) := by
  refine ⟨by decide, by decide +kernel, ⟨by decide +kernel, ?_⟩, by decide +kernel,
    ⟨0, _, State.entry_setEntry_same _ _ _, rfl, rfl⟩⟩
  intro e x h _
  rw [withEntry_entry] at h
  split at h
  · cases h
    rfl
  · cases h

theorem witness_AlertsQueuedAndPopped :
    framed.takesCommand = true ∧ framed.alerts = [] ∧ (framed.raiseOne 3 1 .level).takesCommand = true ∧
    (framed.raiseOne 3 1 .level).alerts = [{ kind := .level, window := 3, index := 1, seq := 0 }] := by
  decide +kernel

theorem witness_FlushesStart :
    (∃ s : State, s.rstAsserted = true) ∧
    (∃ s : State, s.rstAsserted = false ∧ s.softInterval = true) ∧
    (∃ s : State, s.rstAsserted = false ∧ s.softInterval = false) ∧
    (withEntry .active (.accum 3 true)).entry 0 = some (entryOf (.accum 3 true)) ∧
    (withEntry .active (.held 3 true)).entry 0 = some (entryOf (.held 3 true)) ∧
    (State.reset.lowMark ≤ State.reset.freeCount + State.reset.clean.length) ∧
    ∃ s : State, s.freeCount + s.clean.length < s.lowMark ∧ s.softInterval = false :=
  ⟨⟨{ State.reset with rstAsserted := true }, rfl⟩,
    ⟨{ State.reset with engine := .executing .waitTags }, rfl, by decide +kernel⟩,
    ⟨State.reset, rfl, by decide +kernel⟩, withEntry_entry _ _ 0, withEntry_entry _ _ 0, by decide +kernel,
    ⟨{ State.reset with lowMark := 300 }, by decide +kernel⟩⟩

theorem witness_FlushesStart_age :
    (∃ s : State, s.flushAgeInEffect = 0) ∧ State.reset.softInterval = false ∧ State.reset.flushAgeInEffect ≠ 0 ∧
    (let a : State := { withEntry .active (.held 7 true) with dirty := [0] }
     a.dirty.Nodup ∧ (a.startFlush 0).issue.Nodup ∧ flushedNow a (a.startFlush 0) 0 = true) :=
  ⟨⟨{ State.reset with flushAgeInEffect := 0 }, rfl⟩, by decide +kernel⟩

theorem witness_FlushAllRuns :
    framed.takesCommand = true ∧ framed.flushAllRunning = false ∧
    (∃ s : State, s.takesCommand = true ∧ s.flushAllRunning = true) ∧
    ∃ s : State, s.flushAllRunning = true ∧ (∀ e x, s.entry e = some x → x.flushAll = false) ∧ s.carry = [] := by
  refine ⟨by decide, rfl, ⟨{ framed with flushAllRunning := true }, by decide, rfl⟩,
    ⟨{ withEntry .active (.held 7 true) with flushAllRunning := true }, rfl, ?_, rfl⟩⟩
  intro e x h
  have h' : (withEntry .active (.held 7 true)).entry e = some x := h
  rw [withEntry_entry] at h'
  split at h'
  · cases h'
    rfl
  · cases h'

theorem witness_ParametersSet :
    framed.takesCommand = true ∧ (128 : BitVec 32).toNat ≤ 128 ∧ 128 < (129 : BitVec 32).toNat ∧
    (65535 : BitVec 32).toNat ≤ 65535 ∧ 65535 < (65536 : BitVec 32).toNat ∧
    (1 ≤ (65536 : BitVec 32).toNat ∧ (65536 : BitVec 32).toNat ≤ 65536 ∧
      (65536 : BitVec 32).toNat ≠ framed.prescaler) ∧ (1024 : BitVec 32).toNat = framed.prescaler ∧
    (0 : BitVec 32).toNat = 0 ∧ 65536 < (65537 : BitVec 32).toNat ∧ (15 : BitVec 32).toNat ≤ 15 ∧
    15 < (16 : BitVec 32).toNat := by
  decide

/-- The part about to take a NOP, with one record owed to ID 2. -/
def owing : State := { readyAt2 with pending := [.nop] }

theorem witness_ParametersStayInRange : ∃ s t : State, s.paramsInRange ∧ step s = .next t :=
  ⟨owing, _, by unfold State.paramsInRange; decide, rfl⟩

theorem witness_BoundsKept : ∃ s t : State, s.withinBounds ∧ step s = .next t := by
  have hl : ∀ id, owing.list id = if 2 = id then readyAt2.list 2 else { records := [], nextKey := 0 } := by
    intro id
    rcases eq_or_ne 2 id with rfl | h
    · rfl
    · rw [if_neg h]
      refine (State.list_setList _ _ _ _).trans ?_
      rw [if_neg h]
      simp [State.list, State.reset]
  refine ⟨owing, _, ⟨?_, ?_, ?_, ?_, ?_⟩, rfl⟩
  · intro id r hr
    rw [hl] at hr ⊢
    split at hr
    · rename_i h
      rw [if_pos h]
      have e : (readyAt2.list 2).records = [{ key := 0, kind := .write, size := 4, lane := 0, source := none
                                              answer := some { status := .done, data := [] } }] := by
        decide +kernel
      rw [e] at hr
      cases List.mem_singleton.mp hr
      decide +kernel
    · cases hr
  · intro id
    rw [hl]
    split
    · decide +kernel
    · decide
  all_goals decide +kernel

theorem witness_FramesStartAndEnd :
    framed.frame = some freshFrame ∧ State.reset.frame = none ∧ State.reset.engine = .idle ∧
    framed.takesCommand = true ∧ State.reset.takesCommand = false ∧
    (∃ s : State, s.engine = .responseReady { code := codeNop, status := .ok, results := [] }) ∧
    (∃ s : State, s.engine = .executing .waitTags) ∧ (∃ s : State, s.engine = .executing .waitDelivery) ∧
    ∃ (s : State) (f : Frame), s.frame = some f ∧ f.captured.portState = .executing :=
  ⟨rfl, rfl, rfl, by decide, by decide,
    ⟨{ State.reset with engine := .responseReady { code := codeNop, status := .ok, results := [] } }, rfl⟩,
    ⟨{ State.reset with engine := .executing .waitTags }, rfl⟩,
    ⟨{ State.reset with engine := .executing .waitDelivery }, rfl⟩,
    ⟨{ State.reset with frame := some { freshFrame with
        captured := State.capture { State.reset with engine := .executing .waitTags } } }, _, rfl, rfl⟩⟩

theorem witness_StatusReported :
    framed.takesCommand = true ∧ 15 < (16 : BitVec 8).toNat ∧
    (withEntry .active (.held 7 true)).lookup 3 (1 : BitVec 24).toNat = some 0 ∧
    framed.lookup 3 (1 : BitVec 24).toNat = none := by
  decide +kernel

theorem witness_FramesReadBack :
    encodeFrame (.windowLoad load3) = some (mkFrame codeWindowLoad (loadBytes load3)) ∧
    ([true, false] : List Bool).length < 8 := ⟨rfl, by decide⟩

end Sys2Proof.Tests
end

section
/-!
SUPPORT. The values and the outcomes of the operations (R9 to R18): what a policy sum is, which outcomes a list can hold,
and a SET bit by bit.
-/

namespace Sys2Proof.Machine

/-! ### Widths and policy sums (R9, R10) -/

theorem Width.modulus_eq (l : Width) : l.modulus = 2 ^ (32 * l.lanes) := rfl

theorem Width.modulus_pos (l : Width) : 0 < l.modulus := Nat.two_pow_pos l.bits

theorem policySum_lt (p : Policy) (l : Width) (a b : Nat) : policySum p l a b < l.modulus := by
  have hpos := l.modulus_pos
  cases p with
  | wrap => exact Nat.mod_lt _ hpos
  | saturate =>
    simp only [policySum]
    omega

/-- Adding a sum is adding its parts one after another, under either policy. -/
theorem policySum_assoc (p : Policy) (l : Width) (m d a : Nat) :
    policySum p l m (policySum p l d a) = policySum p l (policySum p l m d) a := by
  cases p with
  | wrap => simp only [policySum, Nat.add_mod_mod, Nat.mod_add_mod, Nat.add_assoc]
  | saturate =>
    simp only [policySum]
    omega

theorem policySum_zero (p : Policy) {l : Width} {m : Nat} (h : m < l.modulus) : policySum p l m 0 = m := by
  cases p with
  | wrap => exact Nat.mod_eq_of_lt h
  | saturate =>
    simp only [policySum]
    omega

/-! ### Which outcomes a list can hold (R16, R17) -/

theorem level_mem_levelOutcome {e old new : Nat} :
    .level ∈ levelOutcome e old new ↔ e ≠ 0 ∧ old < 2 ^ e ∧ 2 ^ e ≤ new := by
  unfold levelOutcome
  split
  · rename_i h
    simpa [crosses] using h
  · rename_i h
    simpa [crosses] using h

/-- The level check finds nothing but LEVEL. -/
theorem eq_level_of_mem_levelOutcome {k : AlertKind} {e old new : Nat} (h : k ∈ levelOutcome e old new) : k = .level := by
  unfold levelOutcome at h
  split at h
  · exact List.mem_singleton.mp h
  · cases h

theorem wrapped_not_mem_levelOutcome (e old new : Nat) : .wrapped ∉ levelOutcome e old new :=
  fun h => nomatch eq_level_of_mem_levelOutcome h

theorem saturated_not_mem_levelOutcome (e old new : Nat) : .saturated ∉ levelOutcome e old new :=
  fun h => nomatch eq_level_of_mem_levelOutcome h

theorem level_not_mem_overflowOutcome (p : Policy) (l : Width) (old a : Nat) (marked : Bool) :
    .level ∉ overflowOutcome p l old a marked := by
  unfold overflowOutcome
  cases p <;> dsimp only <;> split <;> simp

theorem wrapped_mem_overflowOutcome {p : Policy} {l : Width} {old a : Nat} {marked : Bool} :
    .wrapped ∈ overflowOutcome p l old a marked ↔ p = .wrap ∧ (l.modulus ≤ old + a ∨ marked = true) := by
  unfold overflowOutcome
  cases p <;> dsimp only <;> split <;> simp_all

theorem saturated_mem_overflowOutcome {p : Policy} {l : Width} {old a : Nat} {marked : Bool} :
    .saturated ∈ overflowOutcome p l old a marked ↔
      p = .saturate ∧ old < l.modulus - 1 ∧ (l.modulus ≤ old + a ∨ marked = true) := by
  unfold overflowOutcome
  cases p <;> dsimp only <;> split <;> simp_all

/-! ### The equations of the operations -/

theorem Operation.amount_eq (o : Operation) : o.amount = o.x * 2 ^ (32 * o.lane) := rfl

theorem applyValue_add {o : Operation} (h : o.kind = .add) (c : WinConfig) (v : Nat) :
    applyValue c o v = policySum c.policy c.width v o.amount := by
  simp only [applyValue, h]

theorem applyValue_sub {o : Operation} (h : o.kind = .sub) (c : WinConfig) (v : Nat) :
    applyValue c o v = v - o.amount := by
  simp only [applyValue, h]

theorem applyValue_max {o : Operation} (h : o.kind = .max) (c : WinConfig) (v : Nat) :
    applyValue c o v = max v o.x := by
  simp only [applyValue, h]
  split <;> omega

theorem applyValue_set {o : Operation} (h : o.kind = .set) (c : WinConfig) (v : Nat) :
    applyValue c o v = setLanes v o.lane o.lanes o.x := by
  simp only [applyValue, h]

theorem applyValue_take {o : Operation} (h : o.kind = .take) (c : WinConfig) (v : Nat) : applyValue c o v = 0 := by
  simp only [applyValue, h]

theorem applyValue_read {o : Operation} (h : o.kind = .read) (c : WinConfig) (v : Nat) : applyValue c o v = v := by
  simp only [applyValue, h]

theorem applyOutcomes_add {o : Operation} (h : o.kind = .add) (c : WinConfig) (v : Nat) :
    applyOutcomes c o v =
      levelOutcome c.exponent v (applyValue c o v) ++ overflowOutcome c.policy c.width v o.amount false := by
  simp only [applyOutcomes, h]

/-- MAX and SET have no outcome but LEVEL (R17). -/
theorem applyOutcomes_of_max_or_set {o : Operation} (h : o.kind = .max ∨ o.kind = .set) (c : WinConfig) (v : Nat) :
    applyOutcomes c o v = levelOutcome c.exponent v (applyValue c o v) := by
  rcases h with h | h <;> simp only [applyOutcomes, h]

/-- SUB, READ and TAKE have no outcome (R17). -/
theorem applyOutcomes_of_sub_read_take {o : Operation} (h : o.kind = .sub ∨ o.kind = .read ∨ o.kind = .take)
    (c : WinConfig) (v : Nat) : applyOutcomes c o v = [] := by
  rcases h with h | h | h <;> simp only [applyOutcomes, h]

/-! ### SET (R13) -/

/-- The bits of a SET: the operand's within the addressed lanes, the old value's elsewhere. -/
theorem testBit_setLanes {x lanes : Nat} (hx : x < 2 ^ (32 * lanes)) (v lane b : Nat) :
    (setLanes v lane lanes x).testBit b =
      if 32 * lane ≤ b ∧ b < 32 * (lane + lanes) then x.testBit (b - 32 * lane) else v.testBit b := by
  have hlow : v % 2 ^ (32 * lane) < 2 ^ (32 * lane) := Nat.mod_lt _ (Nat.two_pow_pos _)
  have hsum : setLanes v lane lanes x =
      2 ^ (32 * lane) * (2 ^ (32 * lanes) * (v / 2 ^ (32 * (lane + lanes))) + x) + v % 2 ^ (32 * lane) := by
    unfold setLanes
    rw [Nat.mul_add 32, pow_add]
    ring
  rw [hsum, Nat.testBit_two_pow_mul_add _ hlow]
  split
  · rename_i hb
    rw [if_neg (by omega), Nat.testBit_mod_two_pow, decide_eq_true hb, Bool.true_and]
  · rename_i hb
    rw [Nat.testBit_two_pow_mul_add _ hx]
    split
    · rw [if_pos (by omega)]
    · rw [if_neg (by omega), Nat.testBit_div_two_pow]
      congr 1
      omega

theorem setLanes_lt {v x lane lanes n : Nat} (hv : v < 2 ^ (32 * n)) (hx : x < 2 ^ (32 * lanes))
    (hn : lane + lanes ≤ n) : setLanes v lane lanes x < 2 ^ (32 * n) := by
  refine Nat.lt_pow_two_of_testBit _ fun b hb => ?_
  rw [testBit_setLanes hx, if_neg (by omega)]
  exact Nat.testBit_lt_two_pow (hv.trans_le (Nat.pow_le_pow_right (by decide) hb))

/-! ### Gathered runs (R18, R75) -/

/-- One ADD folded into a delta and its wrap-pending mark (R75). -/
def gather (p : Policy) (l : Width) (a : Nat × Bool) (x : Nat) : Nat × Bool :=
  (policySum p l a.1 x, foldMark l a.1 x a.2)

/-- Gathering adds up: applied to a value, the gathered delta gives what the ADDs give one after another. -/
theorem policySum_gathered (p : Policy) (l : Width) (amounts : List Nat) (m : Nat) (a : Nat × Bool) :
    policySum p l m (amounts.foldl (gather p l) a).1 = amounts.foldl (policySum p l) (policySum p l m a.1) := by
  induction amounts generalizing a with
  | nil => rfl
  | cons x xs ih =>
    rw [List.foldl_cons, ih, List.foldl_cons]
    simp only [gather, policySum_assoc]

theorem gathered_marked_of_marked (p : Policy) (l : Width) (amounts : List Nat) (d : Nat) :
    (amounts.foldl (gather p l) (d, true)).2 = true := by
  induction amounts generalizing d with
  | nil => rfl
  | cons x xs ih => exact ih _

/-- A delta that has not passed 2^W is the plain sum. -/
theorem policySum_eq_add {l : Width} {a b : Nat} (h : a + b < l.modulus) (p : Policy) : policySum p l a b = a + b := by
  cases p with
  | wrap => exact Nat.mod_eq_of_lt h
  | saturate =>
    simp only [policySum]
    omega

/-- The mark is set exactly where the amounts have passed 2^W; until then the delta is their plain sum. -/
theorem gathered_mark (p : Policy) (l : Width) (amounts : List Nat) {d : Nat} (hd : d < l.modulus) :
    ((amounts.foldl (gather p l) (d, false)).2 = true ↔ l.modulus ≤ d + amounts.sum) ∧
      (d + amounts.sum < l.modulus → (amounts.foldl (gather p l) (d, false)).1 = d + amounts.sum) := by
  induction amounts generalizing d with
  | nil => simpa using hd
  | cons x xs ih =>
    rw [List.foldl_cons, List.sum_cons]
    by_cases hx : d + x < l.modulus
    · have hstep : gather p l (d, false) x = (d + x, false) := by
        simp only [gather, foldMark, policySum_eq_add hx, Bool.false_or, Prod.mk.injEq, true_and,
          decide_eq_false_iff_not]
        omega
      rw [hstep, ← Nat.add_assoc]
      exact ih hx
    · have hstep : (gather p l (d, false) x).2 = true := by
        simp only [gather, foldMark, Bool.false_or, decide_eq_true_eq]
        omega
      have hmark : (xs.foldl (gather p l) (gather p l (d, false) x)).2 = true := by
        rw [← Prod.mk.eta (p := gather p l (d, false) x), hstep]
        exact gathered_marked_of_marked p l xs _
      exact ⟨iff_of_true hmark (by omega), fun h => absurd h (by omega)⟩

end Sys2Proof.Machine

open Sys2Proof Sys2Proof.Machine

/-- Settles O17, from the membership of each outcome in the outcomes of an ADD. -/
theorem addByPolicy : Obligations.AddByPolicy := by
  refine ⟨fun c o v hp hk => ?_, fun c o v hp hk => ?_⟩
  all_goals
    have hpos := c.width.modulus_pos
    rw [applyOutcomes_add hk, applyValue_add hk, hp]
    simp only [List.mem_append, wrapped_not_mem_levelOutcome, saturated_not_mem_levelOutcome, false_or,
      wrapped_mem_overflowOutcome, saturated_mem_overflowOutcome, ← Width.modulus_eq, ← Operation.amount_eq]
  · refine ⟨rfl, ?_, by simp⟩
    simp only [Bool.false_eq_true, or_false, true_and]
    omega
  · refine ⟨?_, ?_, by simp⟩
    · exact min_def _ _
    · simp only [Bool.false_eq_true, or_false, true_and]
      omega

/-- Settles O18, by the equation of each operation. -/
theorem subMaxTake : Obligations.SubMaxTake := by
  intro c o v
  refine ⟨fun hk => ⟨?_, applyOutcomes_of_sub_read_take (.inl hk) c v⟩, fun hk => ⟨applyValue_max hk c v, ?_⟩,
    fun hk => ⟨applyValue_take hk c v, applyOutcomes_of_sub_read_take (.inr (.inr hk)) c v⟩⟩
  · rw [applyValue_sub hk, Operation.amount]
    split <;> omega
  · rw [applyOutcomes_of_max_or_set (.inl hk)]
    exact ⟨wrapped_not_mem_levelOutcome _ _ _, saturated_not_mem_levelOutcome _ _ _⟩

/-- Settles O19, bit by bit. -/
theorem setReplacesLanes : Obligations.SetReplacesLanes := by
  intro c o v b hk hx
  rw [applyOutcomes_of_max_or_set (.inr hk), applyValue_set hk]
  exact ⟨testBit_setLanes hx v o.lane b, wrapped_not_mem_levelOutcome _ _ _, saturated_not_mem_levelOutcome _ _ _⟩

/-- Settles O20: LEVEL comes from the level check alone, which ADD, MAX and SET make. -/
theorem levelCrossedUpward : Obligations.LevelCrossedUpward := by
  intro c o v
  cases hk : o.kind with
  | add =>
    rw [applyOutcomes_add hk, List.mem_append, level_mem_levelOutcome]
    simp [level_not_mem_overflowOutcome]
  | max | set =>
    rw [applyOutcomes_of_max_or_set (by simp [hk]), level_mem_levelOutcome]
    simp
  | sub | read | take =>
    rw [applyOutcomes_of_sub_read_take (by simp [hk])]
    simp

/-- Settles O21: gathering associates (`policySum_gathered`), and the mark remembers that the amounts passed 2^W
(`gathered_mark`). -/
theorem gatheredRunEqualsSequence : Obligations.GatheredRunEqualsSequence := by
  intro c m amounts hm
  show runValue c (amounts.foldl (gather c.policy c.width) (0, false)).1 m = _ ∧ _
  have hfold : amounts.foldl (fun (a : Nat × Bool) x =>
      (policySum c.policy c.width a.1 x, foldMark c.width a.1 x a.2)) (0, false) =
        amounts.foldl (gather c.policy c.width) (0, false) := rfl
  have hmark := gathered_mark c.policy c.width amounts c.width.modulus_pos
  simp only [hfold, Nat.zero_add] at hmark ⊢
  obtain ⟨hmark, hplain⟩ := hmark
  generalize hg : amounts.foldl (gather c.policy c.width) (0, false) = g at hmark hplain ⊢
  refine ⟨?_, ?_, fun hp => ?_, fun hp => ?_⟩
  · rw [← hg, runValue, policySum_gathered, policySum_zero c.policy hm]
  · rw [runOutcomes, List.mem_append, level_mem_levelOutcome]
    simp [level_not_mem_overflowOutcome]
  · rw [runOutcomes, List.mem_append, wrapped_mem_overflowOutcome, hmark, Nat.add_comm g.1]
    simp [wrapped_not_mem_levelOutcome, hp]
  · rw [runOutcomes, List.mem_append, saturated_mem_overflowOutcome, hmark]
    simp only [saturated_not_mem_levelOutcome, hp, false_or, true_and]
    omega

/-- Settles O22, operation by operation. -/
theorem valuesStayInWidth : Obligations.ValuesStayInWidth := by
  intro c o v hv hx hlanes hmax
  cases hk : o.kind with
  | add => rw [applyValue_add hk]; exact policySum_lt ..
  | sub => rw [applyValue_sub hk]; exact (Nat.sub_le ..).trans_lt hv
  | max =>
    have hle : 2 ^ (32 * o.lanes) ≤ c.width.modulus := Nat.pow_le_pow_right (by decide) (by simp only [Width.bits]; omega)
    rw [applyValue_max hk]
    exact max_lt hv (hx.trans_le hle)
  | set => rw [applyValue_set hk]; exact setLanes_lt hv hx hlanes
  | read => rw [applyValue_read hk]; exact hv
  | take => rw [applyValue_take hk]; exact c.width.modulus_pos

end

section
/-!
SUPPORT. What the operations shared by every block leave of the update table's entries and clean list, of the windows and
of the snapshot's mode.
-/

namespace Sys2Proof.Machine

/-! ### Alerts, reports and captures leave the table alone -/

@[simp] theorem State.entries_raise (s : State) (w : WinNo) (i : Nat) (ks : List AlertKind) :
    (s.raise w i ks).entries = s.entries :=
  foldl_keeps State.entries (fun t k => t.raiseOne w i k) (fun _ _ => rfl) ks s

@[simp] theorem State.clean_raise (s : State) (w : WinNo) (i : Nat) (ks : List AlertKind) :
    (s.raise w i ks).clean = s.clean :=
  foldl_keeps State.clean (fun t k => t.raiseOne w i k) (fun _ _ => rfl) ks s

@[simp] theorem State.snap_raise (s : State) (w : WinNo) (i : Nat) (ks : List AlertKind) :
    (s.raise w i ks).snap = s.snap :=
  foldl_keeps State.snap (fun t k => t.raiseOne w i k) (fun _ _ => rfl) ks s

@[simp] theorem State.entries_reportValue (s : State) (id : UpId) (key v : Nat) :
    (s.reportValue id key v).entries = s.entries := by
  unfold State.reportValue
  repeat' split
  all_goals rfl

@[simp] theorem State.clean_reportValue (s : State) (id : UpId) (key v : Nat) :
    (s.reportValue id key v).clean = s.clean := by
  unfold State.reportValue
  repeat' split
  all_goals rfl

@[simp] theorem State.snap_reportValue (s : State) (id : UpId) (key v : Nat) :
    (s.reportValue id key v).snap = s.snap := by
  unfold State.reportValue
  repeat' split
  all_goals rfl

@[simp] theorem State.entries_reportFailure (s : State) (id : UpId) (key : Nat) (st : UpStatus) :
    (s.reportFailure id key st).entries = s.entries := by
  unfold State.reportFailure
  repeat' split
  all_goals rfl

@[simp] theorem State.clean_reportFailure (s : State) (id : UpId) (key : Nat) (st : UpStatus) :
    (s.reportFailure id key st).clean = s.clean := by
  unfold State.reportFailure
  repeat' split
  all_goals rfl

@[simp] theorem State.entries_slotCaptured (s : State) (k : SlotNo) (v : Nat) :
    (s.slotCaptured k v).entries = s.entries := by
  unfold State.slotCaptured
  split <;> rfl

@[simp] theorem State.clean_slotCaptured (s : State) (k : SlotNo) (v : Nat) :
    (s.slotCaptured k v).clean = s.clean := by
  unfold State.slotCaptured
  split <;> rfl

/-- A capture that is taken moves the cursor at most, and leaves the snapshot's mode. -/
@[simp] theorem State.clearing_slotCaptured (s : State) (k : SlotNo) (v : Nat) :
    (s.slotCaptured k v).clearing = s.clearing := by
  unfold State.slotCaptured
  split
  · by_cases hk : k = 16
    · cases hj : s.snap.job <;> simp [State.clearing, hk, hj]
    · simp [State.clearing, hk]
  all_goals rfl

theorem State.entry_of_entries {s t : State} (h : t.entries = s.entries) (e : EntryNo) : t.entry e = s.entry e := by
  simp only [State.entry, h]

theorem State.config_of_windows {s t : State} (h : t.windows = s.windows) (w : WinNo) : t.config w = s.config w := by
  simp only [State.config, State.window, h]

/-! ### Applying an operation to a value -/

/-- An operation that is no update leaves the value. -/
theorem applyValue_of_not_isUpdate {o : Operation} (h : o.kind.isUpdate = false) (c : WinConfig) (v : Nat) :
    applyValue c o v = v := by
  cases hk : o.kind <;> simp_all [applyValue, OpKind.isUpdate]

/-- Writing back the live value leaves the body. -/
theorem Body.withValue_of_liveValue {b : Body} {v : Nat} (h : b.liveValue = some v) : b.withValue v = b := by
  cases b <;> simp_all [Body.liveValue, Body.withValue]

end Sys2Proof.Machine
end

section
/-!
SUPPORT. The clean side of the update table (R61, R71): which entries are clean in HELD, with which counter and value, and
the clean list. Most operations leave it as it is; the others take an entry out of it, or put one in that holds what
memory holds.
-/

namespace Sys2Proof.Machine

/-- The counter and the value of an entry that is clean in HELD. -/
def cleanPart : Option Entry → Option (WinNo × Nat × Nat)
  | some x =>
    match x.body with
    | .held v false => some (x.window, x.index, v)
    | _ => none
  | none => none

/-- The clean entries with their counters and values, and the clean list. -/
def State.cleanSide (s : State) : (EntryNo → Option (WinNo × Nat × Nat)) × List EntryNo :=
  (fun e => cleanPart (s.entry e), s.clean)

/-- Clean entries hold what memory holds, and the clean list holds clean entries, each once. -/
def CleanOk (mem : WinNo → Nat → Nat) (c : (EntryNo → Option (WinNo × Nat × Nat)) × List EntryNo) : Prop :=
  (∀ e w i v, c.1 e = some (w, i, v) → v = mem w i) ∧ (∀ e ∈ c.2, c.1 e ≠ none) ∧ c.2.Nodup

/-- The part of `State.cleanAgrees` that every step keeps. -/
def State.cleanKept (s : State) (mem : WinNo → Nat → Nat) : Prop :=
  CleanOk mem s.cleanSide

theorem cleanPart_eq_some {o : Option Entry} {w : WinNo} {i v : Nat} :
    cleanPart o = some (w, i, v) ↔ ∃ x, o = some x ∧ x.body = .held v false ∧ x.window = w ∧ x.index = i := by
  unfold cleanPart
  split
  · rename_i x
    split
    · rename_i u hb
      simp only [Option.some.injEq, Prod.mk.injEq, exists_eq_left', hb, Body.held.injEq, and_true]
      tauto
    · rename_i hb
      simp only [reduceCtorEq, Option.some.injEq, exists_eq_left', false_iff]
      exact fun h => hb _ h.1
  · simp

theorem cleanPart_of_not_clean {x : Entry} (h : ∀ v, x.body ≠ .held v false) : cleanPart (some x) = none := by
  by_contra hn
  obtain ⟨⟨w, i, v⟩, hp⟩ := Option.ne_none_iff_exists'.mp hn
  obtain ⟨y, hy, hb, -⟩ := cleanPart_eq_some.mp hp
  cases hy
  exact h v hb

theorem cleanPart_held {x : Entry} {v : Nat} (h : x.body = .held v false) :
    cleanPart (some x) = some (x.window, x.index, v) :=
  cleanPart_eq_some.mpr ⟨x, rfl, h, rfl, rfl⟩

/-- The clean part depends on the body, the window and the index alone. -/
theorem cleanPart_congr {x y : Entry} (hb : y.body = x.body) (hw : y.window = x.window) (hi : y.index = x.index) :
    cleanPart (some y) = cleanPart (some x) := by
  simp only [cleanPart, hb, hw, hi]

theorem State.cleanKept_iff {s : State} {mem : WinNo → Nat → Nat} :
    s.cleanKept mem ↔ s.cleanAgrees mem ∧ s.clean.Nodup := by
  unfold State.cleanKept CleanOk State.cleanAgrees State.cleanSide
  constructor
  · rintro ⟨hv, hl, hn⟩
    refine ⟨⟨fun e x v hx hb => hv e _ _ v (cleanPart_eq_some.mpr ⟨x, hx, hb, rfl, rfl⟩), fun e he => ?_⟩, hn⟩
    obtain ⟨⟨w, i, v⟩, hp⟩ := Option.ne_none_iff_exists'.mp (hl e he)
    obtain ⟨x, hx, hb, -⟩ := cleanPart_eq_some.mp hp
    exact ⟨x, v, hx, hb⟩
  · rintro ⟨⟨hv, hl⟩, hn⟩
    refine ⟨fun e w i v hp => ?_, fun e he => ?_, hn⟩
    · obtain ⟨x, hx, hb, rfl, rfl⟩ := cleanPart_eq_some.mp hp
      exact hv e x v hx hb
    · obtain ⟨x, v, hx, hb⟩ := hl e he
      simp only [hx, cleanPart_held hb]
      exact Option.some_ne_none _

/-! ### The three ways the clean side changes -/

variable {mem : WinNo → Nat → Nat} {s t : State} {e : EntryNo} {x y : Entry}

theorem State.cleanKept_congr (h : t.cleanSide = s.cleanSide) (hs : s.cleanKept mem) : t.cleanKept mem := by
  unfold State.cleanKept
  rw [h]
  exact hs

/-- Every operation that touches neither the entries nor the clean list leaves the clean side. -/
theorem State.cleanSide_eq (he : t.entries = s.entries) (hc : t.clean = s.clean) : t.cleanSide = s.cleanSide := by
  simp only [State.cleanSide, State.entry, he, hc]

/-- An entry rewritten within its clean part leaves the clean side. -/
theorem State.cleanSide_set {o : Option Entry} (he : t.entries = s.entries.set e.val o e.isLt) (hc : t.clean = s.clean)
    (ho : cleanPart o = cleanPart (s.entry e)) : t.cleanSide = s.cleanSide := by
  have hf : ∀ f, t.entry f = if e = f then o else s.entry f := fun f =>
    (State.entry_of_entries (s := s.setEntry e o) he f).trans (State.entry_setEntry s e f o)
  simp only [State.cleanSide, hc, Prod.mk.injEq, and_true]
  funext f
  rw [hf]
  split
  · rename_i h
    rw [ho, h]
  · rfl

/-- An entry leaves the clean side, and the clean list where it stood in it. -/
theorem State.cleanKept_drop {o : Option Entry} (hs : s.cleanKept mem)
    (he : t.entries = s.entries.set e.val o e.isLt) (ho : cleanPart o = none) (hc : t.clean.Sublist s.clean)
    (hn : e ∉ t.clean) : t.cleanKept mem := by
  obtain ⟨hv, hl, hd⟩ := hs
  have hf : ∀ f, t.entry f = if e = f then o else s.entry f := fun f =>
    (State.entry_of_entries (s := s.setEntry e o) he f).trans (State.entry_setEntry s e f o)
  refine ⟨fun f w i v hp => hv f w i v ?_, fun f hf' => ?_, hd.sublist hc⟩
  · simp only [State.cleanSide, hf] at hp ⊢
    split at hp
    · rw [ho] at hp
      cases hp
    · exact hp
  · have hne : e ≠ f := fun h => hn (h ▸ hf')
    simp only [State.cleanSide, hf, if_neg hne]
    exact hl f (hc.subset hf')

/-- An entry that holds what memory holds joins the clean list's tail. -/
theorem State.cleanKept_join {v : Nat} (hs : s.cleanKept mem)
    (he : t.entries = s.entries.set e.val (some x) e.isLt) (hb : x.body = .held v false)
    (hv : v = mem x.window x.index) (hc : t.clean = s.clean.filter (fun f => decide (f ≠ e)) ++ [e]) :
    t.cleanKept mem := by
  obtain ⟨hval, hl, hd⟩ := hs
  have hf : ∀ f, t.entry f = if e = f then some x else s.entry f := fun f =>
    (State.entry_of_entries (s := s.setEntry e (some x)) he f).trans (State.entry_setEntry s e f _)
  refine ⟨fun f w i u hp => ?_, fun f hmem => ?_, ?_⟩
  · simp only [State.cleanSide, hf] at hp
    split at hp
    · rw [cleanPart_held hb] at hp
      cases hp
      exact hv
    · exact hval f w i u hp
  · simp only [State.cleanSide, hf]
    split
    · rw [cleanPart_held hb]
      exact Option.some_ne_none _
    · rename_i hne
      refine hl f ?_
      simp only [State.cleanSide, hc, List.mem_append, List.mem_filter, List.mem_singleton] at hmem
      rcases hmem with ⟨h, -⟩ | h
      · exact h
      · exact absurd h.symm hne
  · show t.clean.Nodup
    rw [hc, List.nodup_append]
    refine ⟨hd.filter _, by simp, ?_⟩
    intro a ha b hb'
    simp only [List.mem_filter, decide_eq_true_eq, List.mem_singleton] at ha hb'
    rintro rfl
    exact ha.2 hb'

/-- With every entry FREE and the clean list empty, nothing is clean. -/
theorem State.cleanKept_empty (he : ∀ f, s.entry f = none) (hc : s.clean = []) : s.cleanKept mem :=
  State.cleanKept_iff.mpr ⟨⟨fun f z v hz => by simp [he f] at hz, by simp [hc]⟩, by simp [hc]⟩

end Sys2Proof.Machine
end

section
/-!
SUPPORT. Each operation of the model keeps the clean side of the update table as it is (`…_cleanSide`), or keeps the
agreement of its clean entries with memory (`…_cleanKept`).
-/

namespace Sys2Proof.Machine

variable {mem : WinNo → Nat → Nat} {s t : State}

/-! ### Operations that leave the clean side -/

@[simp] theorem State.reportFailure_cleanSide (s : State) (id : UpId) (key : Nat) (st : UpStatus) :
    (s.reportFailure id key st).cleanSide = s.cleanSide :=
  State.cleanSide_eq (by simp) (by simp)

@[simp] theorem State.failWaiters_cleanSide (s : State) (ws : List Waiter) (st : UpStatus) :
    (s.failWaiters ws st).cleanSide = s.cleanSide := by
  unfold State.failWaiters
  refine foldl_keeps State.cleanSide _ (fun a y => ?_) ws s
  split
  · split <;> simp
  · rfl

@[simp] theorem State.startFlush_cleanSide (s : State) (e : EntryNo) : (s.startFlush e).cleanSide = s.cleanSide := by
  rcases s.startFlush_cases e with h | ⟨x, b, hx, hb, h⟩
  · rw [h]
  · rw [h]
    refine State.cleanSide_set rfl rfl ?_
    rw [hx]
    rcases hb with ⟨d, m, hb, rfl⟩ | ⟨v, hb, rfl⟩ <;> simp [cleanPart, hb]

@[simp] theorem State.startFlushes_cleanSide (s : State) (es : List EntryNo) :
    (s.startFlushes es).cleanSide = s.cleanSide :=
  foldl_keeps State.cleanSide _ (fun a e => State.startFlush_cleanSide a e) es s

@[simp] theorem State.ageCheck_cleanSide (s : State) : s.ageCheck.cleanSide = s.cleanSide := by
  unfold State.ageCheck
  split <;> simp

/-- Rewriting every entry within its body, window and index leaves the clean side. -/
theorem State.cleanSide_map {f : Entry → Entry} (he : t.entries = s.entries.map (Option.map f)) (hc : t.clean = s.clean)
    (hf : ∀ x, (f x).body = x.body ∧ (f x).window = x.window ∧ (f x).index = x.index) : t.cleanSide = s.cleanSide := by
  simp only [State.cleanSide, hc, Prod.mk.injEq, and_true]
  funext e
  have hte : t.entry e = (s.entry e).map f := by
    simp only [State.entry, he, Fin.getElem_fin, Vector.getElem_map]
  rw [hte]
  cases s.entry e with
  | none => rfl
  | some x => exact cleanPart_congr (hf x).1 (hf x).2.1 (hf x).2.2

@[simp] theorem State.withdrawCaptures_cleanSide (s : State) : s.withdrawCaptures.cleanSide = s.cleanSide :=
  State.cleanSide_map rfl rfl fun x => by split <;> exact ⟨rfl, rfl, rfl⟩

@[simp] theorem State.flushAllStart_cleanSide (s : State) : s.flushAllStart.cleanSide = s.cleanSide := by
  unfold State.flushAllStart
  rw [State.startFlushes_cleanSide]
  exact State.cleanSide_map rfl rfl fun x => ⟨rfl, rfl, rfl⟩

@[simp] theorem State.completionCheck_cleanSide (s : State) : s.completionCheck.cleanSide = s.cleanSide := by
  unfold State.completionCheck
  repeat' split
  all_goals rfl

@[simp] theorem State.endCheck_cleanSide (s : State) : s.endCheck.cleanSide = s.cleanSide := by
  unfold State.endCheck
  repeat' split
  all_goals rfl

@[simp] theorem State.leaveRunning_cleanSide (s : State) (q : Ending) : (s.leaveRunning q).cleanSide = s.cleanSide :=
  s.withdrawCaptures_cleanSide

@[simp] theorem State.failSnapshot_cleanSide (s : State) (i : Nat) : (s.failSnapshot i).cleanSide = s.cleanSide := by
  unfold State.failSnapshot
  split
  · exact s.leaveRunning_cleanSide .failed
  all_goals rfl

@[simp] theorem State.snapshotFaulted_cleanSide (s : State) (w : WinNo) (i : Nat) :
    (s.snapshotFaulted w i).cleanSide = s.cleanSide := by
  unfold State.snapshotFaulted
  repeat' split
  all_goals simp

@[simp] theorem State.handFault_cleanSide (s : State) (k : FaultKind) (w : WinNo) (i : Nat) :
    (s.handFault k w i).cleanSide = s.cleanSide := by
  unfold State.handFault
  split <;> rfl

@[simp] theorem State.setWinState_cleanSide (s : State) (w : WinNo) (x : WinState) :
    (s.setWinState w x).cleanSide = s.cleanSide := rfl

@[simp] theorem State.strandingEffects_cleanSide (s : State) (k : FaultKind) (w : WinNo) (i : Nat) :
    (s.strandingEffects k w i).cleanSide = s.cleanSide := by
  unfold State.strandingEffects State.enterFault
  split <;> simp

@[simp] theorem State.fetchFailed_cleanSide (s : State) (e : EntryNo) : (s.fetchFailed e).cleanSide = s.cleanSide := by
  unfold State.fetchFailed
  split
  · rfl
  · rename_i x hx
    split
    case h_1 d m q hb =>
      dsimp only
      rw [State.strandingEffects_cleanSide]
      have hfail := State.failWaiters_cleanSide s x.waiters .memfault
      rw [← hfail]
      refine State.cleanSide_set rfl rfl ?_
      have hpart : cleanPart ((s.failWaiters x.waiters .memfault).entry e) = cleanPart (s.entry e) :=
        congrFun (congrArg Prod.fst hfail) e
      rw [hpart, hx]
      simp [cleanPart, hb]
    all_goals rfl

@[simp] theorem State.writeFailed_cleanSide (s : State) (e : EntryNo) : (s.writeFailed e).cleanSide = s.cleanSide := by
  unfold State.writeFailed
  split
  · rfl
  · rename_i x hx
    split
    case h_1 v r hb =>
      dsimp only
      rw [State.strandingEffects_cleanSide]
      refine State.cleanSide_set rfl rfl ?_
      simp [cleanPart, hx, hb]
    all_goals rfl

@[simp] theorem State.reenter_cleanSide (s : State) (e : EntryNo) : (s.reenter e).cleanSide = s.cleanSide := by
  unfold State.reenter
  split
  · rfl
  · rename_i x hx
    split
    case h_1 d m q hb =>
      refine State.cleanSide_set rfl rfl ?_
      simp [cleanPart, hx, hb]
    case h_2 v hb =>
      refine State.cleanSide_set rfl rfl ?_
      simp [cleanPart, hx, hb]
    all_goals rfl

@[simp] theorem State.reenterAll_cleanSide (s : State) (w : WinNo) : (s.reenterAll w).cleanSide = s.cleanSide :=
  foldl_keeps State.cleanSide _ (fun a e => State.reenter_cleanSide a e) _ s

@[simp] theorem State.armingCheck_cleanSide (s : State) (w : WinNo) : (s.armingCheck w).cleanSide = s.cleanSide := by
  unfold State.armingCheck
  split <;> rfl

@[simp] theorem State.armingChecks_cleanSide (s : State) : s.armingChecks.cleanSide = s.cleanSide :=
  foldl_keeps State.cleanSide _ (fun a w => State.armingCheck_cleanSide a w) _ s

@[simp] theorem State.drainCheck_cleanSide (s : State) (w : WinNo) : (s.drainCheck w).cleanSide = s.cleanSide := by
  unfold State.drainCheck
  split <;> rfl

@[simp] theorem State.drainChecks_cleanSide (s : State) : s.drainChecks.cleanSide = s.cleanSide :=
  foldl_keeps State.cleanSide _ (fun a w => State.drainCheck_cleanSide a w) _ s

@[simp] theorem State.flushAllCheck_cleanSide (s : State) : s.flushAllCheck.cleanSide = s.cleanSide := by
  unfold State.flushAllCheck
  split <;> rfl

@[simp] theorem State.finishCheck_cleanSide (s : State) : s.finishCheck.cleanSide = s.cleanSide := by
  unfold State.finishCheck
  split <;> rfl

@[simp] theorem State.chooseResponse_cleanSide (s : State) : s.chooseResponse.cleanSide = s.cleanSide := by
  unfold State.chooseResponse
  repeat' split
  all_goals rfl

@[simp] theorem orderFlushes_cleanSide (a b : State) : (orderFlushes a b).cleanSide = b.cleanSide := rfl

@[simp] theorem State.deliver_cleanSide (s : State) : s.deliver.cleanSide = s.cleanSide := by
  unfold State.deliver
  split <;> rfl

@[simp] theorem State.latchAtAcceptance_cleanSide (s : State) (w : WinNo) (i : Nat) (o : Operation) (id : UpId)
    (link : Nat) : (s.latchAtAcceptance w i o id link).cleanSide = s.cleanSide := by
  unfold State.latchAtAcceptance
  repeat' split
  all_goals rfl

theorem State.latchServe_cleanSide {w : WinNo} {i : Nat} {o : Operation} {id : UpId} {link : Nat}
    (h : s.latchServe w i o id link = some t) : t.cleanSide = s.cleanSide := by
  unfold State.latchServe at h
  repeat' split at h
  all_goals (cases h; try rfl)

@[simp] theorem State.appendWaiters_cleanSide (s : State) (e : EntryNo) (ws : List Waiter) (u m : Bool) :
    (s.appendWaiters e ws u m).cleanSide = s.cleanSide := by
  unfold State.appendWaiters
  split
  · rfl
  · rename_i x hx
    dsimp only
    split
    case h_1 d m q =>
      refine State.cleanSide_set rfl rfl ?_
      simp [cleanPart, hx, q]
    case h_2 d m q hb =>
      refine State.cleanSide_set rfl rfl ?_
      simp [cleanPart, hx, hb]
    all_goals rfl

/-- Changing an entry within its clean part leaves the clean side. -/
theorem State.mapEntry_cleanSide (s : State) (e : EntryNo) {f : Entry → Entry}
    (hf : ∀ x, cleanPart (some (f x)) = cleanPart (some x)) : (s.mapEntry e f).cleanSide = s.cleanSide := by
  unfold State.mapEntry
  split
  · rename_i x hx
    exact State.cleanSide_set rfl rfl (by rw [hf, hx])
  · rfl

@[simp] theorem State.foldAdd_cleanSide (s : State) (e : EntryNo) (a : Nat) : (s.foldAdd e a).cleanSide = s.cleanSide :=
  s.mapEntry_cleanSide e fun x => by
    cases hb : x.body <;> simp [cleanPart, hb]

@[simp] theorem State.writeGranted_cleanSide (s : State) (e : EntryNo) : (s.writeGranted e).cleanSide = s.cleanSide :=
  s.mapEntry_cleanSide e fun x => by
    cases hb : x.body <;> simp [cleanPart, hb]

@[simp] theorem State.issueRequest_cleanSide (s : State) (o : Owner) (q : DownRequest) :
    (s.issueRequest o q).cleanSide = s.cleanSide := rfl

@[simp] theorem State.grantPass_cleanSide (s : State) (g : Tag) : (s.grantPass g).cleanSide = s.cleanSide := by
  unfold State.grantPass
  split <;> rfl

@[simp] theorem State.grantTable_cleanSide (s : State) (g : Tag) : (s.grantTable g).cleanSide = s.cleanSide := by
  unfold State.grantTable
  split
  · rfl
  · split
    · rfl
    · dsimp only
      split
      · rfl
      · rw [State.issueRequest_cleanSide, State.writeGranted_cleanSide]
        rfl
      all_goals rfl

@[simp] theorem State.grantSnap_cleanSide (s : State) (g : Tag) : (s.grantSnap g).cleanSide = s.cleanSide := by
  unfold State.grantSnap
  split
  · split <;> rfl
  · rfl

@[simp] theorem State.grant_cleanSide (s : State) : s.grant.cleanSide = s.cleanSide := by
  rcases s.grant_cases with h | ⟨c, g, -, -, h⟩
  · rw [h]
  · rw [h]
    cases c <;> simp <;> rfl

@[simp] theorem State.tickOnce_cleanSide (s : State) : s.tickOnce.cleanSide = s.cleanSide := by
  unfold State.tickOnce
  dsimp only
  split
  · rfl
  · rw [State.startFlushes_cleanSide]
    rfl

@[simp] theorem State.destinationFailed_cleanSide (s : State) (k : SlotNo) :
    (s.destinationFailed k).cleanSide = s.cleanSide := by
  unfold State.destinationFailed
  split
  · simp
    rfl
  · rfl

@[simp] theorem State.passCompleted_cleanSide (s : State) (r : TagRecord) (id : UpId) (link : Nat) (ok : Bool)
    (data : BitVec 512) : (s.passCompleted r id link ok data).cleanSide = s.cleanSide := by
  unfold State.passCompleted
  dsimp only
  rw [State.armingChecks_cleanSide]
  split <;> rfl

/-! ### Uses and updates of an entry -/

variable {e : EntryNo} {x y : Entry}

/-- An entry rewritten within its body, and then used: where it is clean it moves to the clean list's tail (R71). -/
theorem State.used_cleanKept (hs : s.cleanKept mem) (hx : s.entry e = some x) (hb : y.body = x.body)
    (hw : y.window = x.window) (hi : y.index = x.index) : ((s.setEntry e (some y)).useClean e).cleanKept mem := by
  have hside : (s.setEntry e (some y)).cleanSide = s.cleanSide :=
    State.cleanSide_set rfl rfl (by rw [hx]; exact cleanPart_congr hb hw hi)
  have hset := State.cleanKept_congr hside hs
  unfold State.useClean
  rw [State.entry_setEntry_same]
  dsimp only
  split
  case h_1 v hc =>
    refine State.cleanKept_join (t := (s.setEntry e (some y)).joinClean e) hs rfl hc ?_ rfl
    have hpart : cleanPart (s.entry e) = some (y.window, y.index, v) := by
      rw [hx, cleanPart_held (hb.symm.trans hc), hw, hi]
    exact hs.1 e y.window y.index v hpart
  all_goals exact hset

/-- An entry whose live value is replaced by an update: it is no longer clean (R70, R79, R80). -/
theorem State.updated_cleanKept {v : Nat} (hs : s.cleanKept mem) (hx : s.entry e = some x)
    (hb : y.body = x.body.withValue v) : ((s.setEntry e (some y)).markUpdate e).cleanKept mem := by
  unfold State.markUpdate
  rw [State.entry_setEntry_same]
  dsimp only
  cases hxb : x.body with
  | held u d =>
    have hyb : y.body = .held v d := by rw [hb, hxb]; rfl
    rw [hyb]
    cases d with
    | true =>
      refine State.cleanKept_congr (State.cleanSide_set (e := e) (Vector.set_set ..) rfl ?_) hs
      simp [hx, cleanPart, hxb]
    | false =>
      refine State.cleanKept_drop (e := e) hs (Vector.set_set ..) ?_ List.filter_sublist ?_
      · simp [cleanPart]
      · simp
  | write u r =>
    have hyb : y.body = .write v r := by rw [hb, hxb]; rfl
    rw [hyb]
    refine State.cleanKept_congr (State.cleanSide_set (e := e) (Vector.set_set ..) rfl ?_) hs
    simp [hx, cleanPart, hxb]
  | accum d m | fetch d m q | strandedFetch d m q | strandedWrite v =>
    have hyb : y.body = x.body := by rw [hb, hxb]; rfl
    rw [hyb, hxb]
    refine State.cleanKept_congr (s := s) (State.cleanSide_set (e := e) rfl rfl ?_) hs
    simp [hx, cleanPart, hyb, hxb]

theorem State.applyNow_cleanKept (hs : s.cleanKept mem) (e : EntryNo) (o : Operation) (id : UpId) (link : Nat) :
    (s.applyNow e o id link).cleanKept mem := by
  unfold State.applyNow
  split
  · exact hs
  · rename_i x hx
    split
    · exact hs
    · rename_i v hv
      dsimp only
      generalize hu : (if o.kind.isPosted = true then s.raise x.window x.index (applyOutcomes (s.config x.window) o v)
        else (s.raise x.window x.index (applyOutcomes (s.config x.window) o v)).reportValue id link v) = u
      have he : u.entries = s.entries := by rw [← hu]; split <;> simp
      have hc : u.clean = s.clean := by rw [← hu]; split <;> simp
      have hku : u.cleanKept mem := State.cleanKept_congr (State.cleanSide_eq he hc) hs
      have hxu : u.entry e = some x := (State.entry_of_entries he e).trans hx
      split
      · exact State.updated_cleanKept hku hxu rfl
      · rename_i hk
        refine State.used_cleanKept hku hxu ?_ rfl rfl
        rw [applyValue_of_not_isUpdate (by simpa using hk)]
        exact Body.withValue_of_liveValue hv

theorem State.captureNow_cleanKept (hs : s.cleanKept mem) (e : EntryNo) (k : SlotNo) :
    (s.captureNow e k).cleanKept mem := by
  unfold State.captureNow
  split
  · exact hs
  · rename_i x hx
    split
    · exact hs
    · rename_i v hv
      have hk : (s.slotCaptured k v).cleanKept mem := State.cleanKept_congr (State.cleanSide_eq (by simp) (by simp)) hs
      have hxk : (s.slotCaptured k v).entry e = some x := (State.entry_of_entries (by simp) e).trans hx
      dsimp only
      split
      · exact State.updated_cleanKept hk hxk rfl
      · exact State.used_cleanKept hk hxk rfl rfl rfl

/-! ### Allocation and freeing -/

theorem State.freeEntry_cleanKept (hs : s.cleanKept mem) (e : EntryNo) : (s.freeEntry e).cleanKept mem := by
  refine State.cleanKept_drop (e := e) (o := none) hs rfl rfl ?_ ?_ <;> simp [State.freeEntry]

theorem State.freeEntries_cleanKept (hs : s.cleanKept mem) (es : List EntryNo) : (s.freeEntries es).cleanKept mem := by
  induction es generalizing s with
  | nil => exact hs
  | cons e es ih => exact ih (State.freeEntry_cleanKept hs e)

/-- The entry an allocation takes stands outside the clean side afterwards (R64, R65). -/
theorem State.obtain_cleanKept (hs : s.cleanKept mem) (h : s.obtain = some (e, t)) :
    t.cleanKept mem ∧ t.entry e = none := by
  rcases State.obtain_cases h with ⟨hf, rfl⟩ | ⟨-, rest, hc, rfl⟩
  · exact ⟨hs, State.lowestFree_free hf⟩
  · have hnd := hs.2.2
    simp only [State.cleanSide, hc, List.nodup_cons] at hnd
    refine ⟨State.cleanKept_drop (e := e) (o := none) hs rfl rfl ?_ hnd.1, State.entry_setEntry_same s e none⟩
    rw [hc]
    exact List.sublist_cons_self e rest

/-- An entry allocated in ACCUM or FETCH is not clean. -/
theorem State.allocated_cleanKept {u : State} (ht : t.cleanKept mem) (hf : t.entry e = none)
    (he : u.entries = t.entries.set e.val (some y) e.isLt) (hc : u.clean = t.clean)
    (hy : ∀ v, y.body ≠ .held v false) : u.cleanKept mem :=
  State.cleanKept_congr (State.cleanSide_set he hc (by rw [hf]; exact cleanPart_of_not_clean hy)) ht

/-! ### Acceptance and capture requests -/

theorem State.carryOut_cleanKept (hs : s.cleanKept mem) (w : WinNo) (i : Nat) (o : Operation) (id : UpId) (link : Nat)
    (cap : Option SlotNo) : (s.carryOut w i o id link cap).cleanKept mem := by
  unfold State.carryOut
  dsimp only
  split
  · split
    · exact hs
    · rename_i e t ho
      obtain ⟨ht, hf⟩ := State.obtain_cleanKept hs ho
      split
      · exact State.allocated_cleanKept ht hf rfl rfl (by simp)
      · exact State.allocated_cleanKept ht hf rfl rfl (by simp)
  · split
    · exact hs
    · split
      case h_1 => split <;> exact State.cleanKept_congr (by simp) hs
      case h_2 => split <;> exact State.cleanKept_congr (by simp) hs
      case h_3 | h_4 =>
        split
        · exact State.applyNow_cleanKept (State.captureNow_cleanKept hs _ _) ..
        · exact State.applyNow_cleanKept hs ..
      all_goals exact hs

theorem State.accept_cleanKept (hs : s.cleanKept mem) (w : WinNo) (i : Nat) (o : Operation) (id : UpId) (link : Nat) :
    (s.accept w i o id link).cleanKept mem := by
  unfold State.accept
  split
  · split
    · rename_i k _
      exact State.carryOut_cleanKept (State.cleanKept_congr (t := s.takeEarly i k) rfl hs) ..
    · exact hs
  · exact State.carryOut_cleanKept hs ..

theorem State.requestCapture_cleanKept (hs : s.cleanKept mem) (w : WinNo) (i : Nat) (k : SlotNo) :
    (s.requestCapture w i k).cleanKept mem := by
  unfold State.requestCapture
  split
  · split
    · exact hs
    · rename_i e t ho
      obtain ⟨ht, hf⟩ := State.obtain_cleanKept hs ho
      exact State.allocated_cleanKept ht hf rfl rfl (by simp)
  · split
    · exact hs
    · split
      case h_1 | h_2 => exact State.cleanKept_congr (by simp) hs
      case h_3 | h_4 => exact State.captureNow_cleanKept hs ..
      all_goals exact hs

/-- A walk step changes nothing, or the snapshot engine alone, or makes a capture request after such a change (R132). -/
theorem State.walkStep_cases (s : State) :
    s.walkStep = s ∨ ∃ p : Snapshot, s.walkStep = { s with snap := p } ∨
      s.walkStep = ({ s with snap := p } : State).completionCheck ∨
      ∃ w i k, s.walkStep = ({ s with snap := p } : State).requestCapture w i k := by
  unfold State.walkStep
  split
  · cases hj : s.snap.job with
    | none => exact .inl rfl
    | some b =>
      rcases hsk : skipExceptions s.snap.exceptions.length b s.snap.exceptions with ⟨b1, xs⟩
      simp only [hsk]
      right
      split
      · split
        · exact ⟨_, .inl rfl⟩
        · exact ⟨_, .inr (.inr ⟨_, _, _, rfl⟩)⟩
      · exact ⟨_, .inr (.inl rfl)⟩
  · exact .inl rfl
theorem State.walkStep_cleanKept (hs : s.cleanKept mem) : s.walkStep.cleanKept mem := by
  rcases s.walkStep_cases with h | ⟨p, h | h | ⟨w, i, k, h⟩⟩ <;> rw [h]
  · exact hs
  · exact hs
  · exact State.cleanKept_congr (s := s) (State.completionCheck_cleanSide _) hs
  · exact State.requestCapture_cleanKept (s := { s with snap := p }) hs w i k

theorem State.retryWalk_cleanKept (hs : s.cleanKept mem) : s.retryWalk.cleanKept mem := by
  unfold State.retryWalk
  split
  · exact State.walkStep_cleanKept hs
  all_goals exact hs

theorem State.destinationWritten_cleanKept (hs : s.cleanKept mem) (k : SlotNo) :
    (s.destinationWritten k).cleanKept mem := by
  unfold State.destinationWritten
  have hslot : (s.setSlot k .free).cleanKept mem := State.cleanKept_congr rfl hs
  dsimp only
  split
  · exact State.cleanKept_congr (by simp) (State.walkStep_cleanKept hslot)
  · exact State.cleanKept_congr (by simp) hslot

/-! ### Treatment and taking -/

theorem State.offer_cleanKept (hs : s.cleanKept mem) {w : WinNo} {i : Nat} {o : Operation} {id : UpId} {link : Nat}
    (h : s.offer w i o id link = .settled t) : t.cleanKept mem := by
  rcases s.offer_cases w i o id link with ⟨u, hu, ho⟩ | ⟨-, ⟨-, -, ho⟩ | ⟨r, -, ho⟩ | ⟨-, ho⟩⟩ <;>
    rw [ho] at h <;> cases h
  · exact State.cleanKept_congr (State.latchServe_cleanSide hu) hs
  · exact State.cleanKept_congr rfl hs
  · have hlatch := State.cleanKept_congr (s.latchAtAcceptance_cleanSide w i o id link) hs
    have hk := State.accept_cleanKept hlatch w i o id link
    split
    · exact State.cleanKept_congr rfl hk
    · exact hk

theorem State.treat_cleanKept (hs : s.cleanKept mem) {d : CounterOp} {id : UpId} {link : Nat}
    (h : s.treat d id link = .settled t) : t.cleanKept mem := by
  rcases s.treat_cases d id link with ht | ⟨ht, -⟩ | ⟨st, -, ht⟩ <;> rw [ht] at h
  · exact State.offer_cleanKept hs h
  · cases h
  · cases h
    exact State.cleanKept_congr rfl hs

theorem State.retryHold_cleanKept (hs : s.cleanKept mem) : s.retryHold.cleanKept mem := by
  unfold State.retryHold
  split
  · exact hs
  · split
    · rename_i t ht
      exact State.cleanKept_congr (s := t) rfl (State.treat_cleanKept hs ht)
    · exact State.cleanKept_congr rfl hs

theorem State.takeCounter_cleanKept (hs : s.cleanKept mem) (w : WinNo) (r : Request) :
    (s.takeCounter w r).cleanKept mem := by
  unfold State.takeCounter
  dsimp only
  split
  · exact State.cleanKept_congr rfl hs
  · split
    · rename_i d _ _ u hu
      exact State.treat_cleanKept (s := s.appendRecord r d.op.lane) hs hu
    · exact State.cleanKept_congr rfl hs

theorem State.takeHead_cleanKept (hs : s.cleanKept mem) (h : s.takeHead = some t) : t.cleanKept mem := by
  obtain ⟨r, rest, -, -, ⟨-, rfl⟩ | ⟨w, -, rfl⟩⟩ := State.takeHead_cases h
  · exact State.cleanKept_congr rfl hs
  · exact State.takeCounter_cleanKept (s := { s with channel := rest }) hs w r

/-! ### The end of a happening -/

theorem retries_cleanKept {a b : State} (hb : b.cleanKept mem) : (retries a b).cleanKept mem := by
  have hcount : ({ b with choice := b.choice + 1 } : State).cleanKept mem := State.cleanKept_congr rfl hb
  unfold retries
  dsimp only
  split
  · split
    · split
      · exact State.retryHold_cleanKept (State.walkStep_cleanKept hcount)
      · exact State.walkStep_cleanKept (State.retryHold_cleanKept hcount)
    · exact State.retryHold_cleanKept hb
  · split
    · exact State.walkStep_cleanKept hb
    · exact hb

theorem State.pressureAct_cleanKept (hs : s.cleanKept mem) : s.pressureAct.cleanKept mem := by
  unfold State.pressureAct
  split
  · exact hs
  · exact State.cleanKept_congr (State.startFlushes_cleanSide _ _) (State.freeEntries_cleanKept hs _)

theorem rounds_cleanKept {a b : State} (n : Nat) (hb : b.cleanKept mem) : (rounds n a b).cleanKept mem := by
  induction n generalizing a b with
  | zero => exact hb
  | succ n ih =>
    have hc : (retries a b).pressureAct.cleanKept mem := State.pressureAct_cleanKept (retries_cleanKept hb)
    have hd : (retries a b).pressureAct.ageCheck.cleanKept mem := State.cleanKept_congr (by simp) hc
    unfold rounds
    dsimp only
    split <;> split
    · exact ih hd
    · exact hd
    · exact ih hc
    · exact hc

theorem State.clearCheck_cleanKept (hs : s.cleanKept mem) : s.clearCheck.cleanKept mem := by
  unfold State.clearCheck
  split
  · exact State.cleanKept_empty (fun f => Vector.getElem_replicate _) rfl
  · exact hs

theorem settle_cleanKept {a b : State} (hb : b.cleanKept mem) : (settle a b).cleanKept mem := by
  have hr : (orderFlushes a (rounds roundLimit a b).drainChecks.flushAllCheck).cleanKept mem :=
    State.cleanKept_congr (s := rounds roundLimit a b) (by simp) (rounds_cleanKept roundLimit hb)
  refine State.cleanKept_congr ?_ (State.clearCheck_cleanKept hr)
  simp [settle]

theorem State.nextHappening_cleanKept (hs : s.cleanKept mem) (h : s.nextHappening = some t) : t.cleanKept mem := by
  have hcount : ({ s with choice := s.choice + 1 } : State).cleanKept mem := State.cleanKept_congr rfl hs
  rcases State.nextHappening_cases h with ⟨ht, -⟩ | ⟨-, -, rfl⟩ | ⟨-, ht | rfl⟩
  · exact State.takeHead_cleanKept hs ht
  · exact State.cleanKept_congr s.grant_cleanSide hs
  · exact State.takeHead_cleanKept hcount ht
  · exact State.cleanKept_congr (State.grant_cleanSide _) hcount

theorem finish_cleanKept {a b : State} (hb : b.cleanKept mem) : (finish a b).cleanKept mem :=
  follow_induct (P := fun s => s.cleanKept mem)
    (fun _ _ hs ht => settle_cleanKept (State.nextHappening_cleanKept hs ht)) _ _ (settle_cleanKept hb)

end Sys2Proof.Machine
end

section
/-!
SUPPORT. What the waiters of a fetch return build (R86), and what becomes of an entry at the return of its fetch or its
write-back (R87, R89).
-/

namespace Sys2Proof.Machine

/-! ### The waiters -/

/-- What a fetch return's waiters leave alone until the entry settles. -/
def State.waiterView (s : State) :=
  (s.entries, s.clean, s.windows, s.clearing)

theorem State.waiterView_raise (s : State) (w : WinNo) (i : Nat) (ks : List AlertKind) :
    (s.raise w i ks).waiterView = s.waiterView := by
  have hw := State.windows_of_fixed (s.raise_fixed w i ks)
  simp only [State.waiterView, State.entries_raise, State.clean_raise, hw, State.clearing, State.snap_raise]

theorem State.waiterView_reportValue (s : State) (id : UpId) (key v : Nat) :
    (s.reportValue id key v).waiterView = s.waiterView := by
  have hw := State.windows_of_fixed (s.reportValue_fixed id key v)
  simp only [State.waiterView, State.entries_reportValue, State.clean_reportValue, hw, State.clearing,
    State.snap_reportValue]

theorem State.waiterView_slotCaptured (s : State) (k : SlotNo) (v : Nat) :
    (s.slotCaptured k v).waiterView = s.waiterView := by
  have hw := State.windows_of_fixed (s.slotCaptured_fixed k v)
  simp only [State.waiterView, State.entries_slotCaptured, State.clean_slotCaptured, hw, State.clearing_slotCaptured]

theorem applyWaiter_waiterView (c : WinConfig) (w : WinNo) (i : Nat) (a : WaiterRun) (y : Waiter) :
    (applyWaiter c w i a y).st.waiterView = a.st.waiterView := by
  cases y with
  | op o id link =>
    simp only [applyWaiter]
    split
    · exact State.waiterView_raise ..
    · exact (State.waiterView_reportValue ..).trans (State.waiterView_raise ..)
  | capture k =>
    simp only [applyWaiter]
    split <;> exact State.waiterView_slotCaptured ..

theorem State.entries_of_waiterView {s t : State} (h : t.waiterView = s.waiterView) : t.entries = s.entries :=
  congrArg (fun q => q.1) h

theorem State.clean_of_waiterView {s t : State} (h : t.waiterView = s.waiterView) : t.clean = s.clean :=
  congrArg (fun q => q.2.1) h

theorem State.windows_of_waiterView {s t : State} (h : t.waiterView = s.waiterView) : t.windows = s.windows :=
  congrArg (fun q => q.2.2.1) h

theorem State.clearing_of_waiterView {s t : State} (h : t.waiterView = s.waiterView) : t.clearing = s.clearing :=
  congrArg (fun q => q.2.2.2) h

/-- A waiter leaves the value that R3 says (the mode being that of the state it finds). -/
theorem applyWaiter_v (c : WinConfig) (w : WinNo) (i : Nat) (a : WaiterRun) (y : Waiter) :
    (applyWaiter c w i a y).v = waiterValue c a.st.clearing a.v y := by
  cases y with
  | op o id link => rfl
  | capture k =>
    simp only [applyWaiter, waiterValue]
    split <;> rfl

/-- A run that no waiter has changed stands at the value it began with. -/
theorem applyWaiter_unchanged {c : WinConfig} {w : WinNo} {i : Nat} {a : WaiterRun} {y : Waiter}
    (h : (applyWaiter c w i a y).changed = false) : a.changed = false ∧ (applyWaiter c w i a y).v = a.v := by
  cases y with
  | op o id link =>
    simp only [applyWaiter, Bool.or_eq_false_iff, decide_eq_false_iff_not, not_not] at h
    exact h
  | capture k =>
    simp only [applyWaiter] at h ⊢
    split at h
    · simp only [Bool.or_eq_false_iff, decide_eq_false_iff_not, not_not] at h
      rename_i hc
      rw [if_pos hc]
      exact ⟨h.1, h.2.symm⟩
    · rename_i hc
      rw [if_neg hc]
      exact ⟨h, rfl⟩

theorem foldl_applyWaiter_v (c : WinConfig) (w : WinNo) (i : Nat) (ws : List Waiter) (a : WaiterRun) :
    (ws.foldl (applyWaiter c w i) a).v = ws.foldl (waiterValue c a.st.clearing) a.v := by
  induction ws generalizing a with
  | nil => rfl
  | cons y ys ih =>
    rw [List.foldl_cons, ih, List.foldl_cons, applyWaiter_v,
      State.clearing_of_waiterView (applyWaiter_waiterView c w i a y)]

theorem foldl_applyWaiter_unchanged {c : WinConfig} {w : WinNo} {i : Nat} {ws : List Waiter} {a : WaiterRun}
    (h : (ws.foldl (applyWaiter c w i) a).changed = false) :
    a.changed = false ∧ (ws.foldl (applyWaiter c w i) a).v = a.v := by
  induction ws generalizing a with
  | nil => exact ⟨h, rfl⟩
  | cons y ys ih =>
    obtain ⟨hy, hv⟩ := ih h
    obtain ⟨ha, hva⟩ := applyWaiter_unchanged hy
    exact ⟨ha, hv.trans hva⟩

theorem State.runWaiters_waiterView (s : State) (x : Entry) (d : Nat) (marked : Bool) (m : Nat) :
    (s.runWaiters x d marked m).st.waiterView = s.waiterView :=
  (foldl_keeps (fun a : WaiterRun => a.st.waiterView) _ (fun a y => applyWaiter_waiterView _ _ _ a y) x.waiters _).trans
    (State.waiterView_raise ..)

/-- The waiters build the value that the entry's coherent value counts on (R2, R86). -/
theorem State.runWaiters_v (s : State) (x : Entry) (d : Nat) (marked : Bool) (m : Nat) :
    (s.runWaiters x d marked m).v =
      x.waiters.foldl (waiterValue (s.config x.window) s.clearing) (runValue (s.config x.window) d m) := by
  unfold State.runWaiters
  rw [foldl_applyWaiter_v]
  rw [State.clearing_of_waiterView (State.waiterView_raise ..)]

/-- A delta of 0 leaves a memory value that fits its counter. -/
theorem runValue_zero {c : WinConfig} {m : Nat} (h : m < c.width.modulus) : runValue c 0 m = m :=
  policySum_zero c.policy h

/-- A fetch that finds neither gathered nor changed work leaves the memory value. -/
theorem State.runWaiters_clean {s : State} {x : Entry} {marked : Bool} {m : Nat} {d : Nat}
    (hm : m < (s.config x.window).width.modulus)
    (h : (decide (d ≠ 0) || (s.runWaiters x d marked m).changed) = false) : (s.runWaiters x d marked m).v = m := by
  simp only [Bool.or_eq_false_iff, decide_eq_false_iff_not, not_not] at h
  obtain ⟨rfl, hc⟩ := h
  exact (foldl_applyWaiter_unchanged hc).2.trans (runValue_zero hm)

/-! ### The entry's next state -/

/-- An entry of the same counter that no waiter waits on. -/
def Entry.settledAs (x y : Entry) (b : Body) : Prop :=
  y.body = b ∧ y.window = x.window ∧ y.index = x.index

/-- At a fetch return the entry holds unwritten work in HELD or WRITE, or, clean, goes FREE or joins the clean list's tail
(R87). -/
theorem State.settleFetched_cases (s : State) (e : EntryNo) (x : Entry) (q : FetchCause) (v : Nat) (dirty cleared : Bool) :
    let t := s.settleFetched e x q v dirty cleared
    t.windows = s.windows ∧ t.snap = s.snap ∧
    ((dirty = true ∧ t.clean = s.clean ∧
        ∃ y, t.entries = s.entries.set e.val (some y) e.isLt ∧
          (x.settledAs y (.write v false) ∨ x.settledAs y (.held v true))) ∨
      (dirty = false ∧ t = s.freeEntry e) ∨
      (dirty = false ∧ t.clean = s.clean.filter (fun f => decide (f ≠ e)) ++ [e] ∧
        ∃ y, t.entries = s.entries.set e.val (some y) e.isLt ∧ x.settledAs y (.held v false))) := by
  unfold State.settleFetched
  dsimp only
  by_cases hd : dirty = true
  · rw [if_pos hd]
    split
    · exact ⟨rfl, rfl, .inl ⟨hd, rfl, _, rfl, .inl ⟨rfl, rfl, rfl⟩⟩⟩
    · exact ⟨rfl, rfl, .inl ⟨hd, rfl, _, rfl, .inr ⟨rfl, rfl, rfl⟩⟩⟩
  · rw [if_neg hd]
    have hf : dirty = false := by simpa using hd
    split
    · exact ⟨rfl, rfl, .inr (.inl ⟨hf, rfl⟩)⟩
    · exact ⟨rfl, rfl, .inr (.inr ⟨hf, rfl, _, rfl, ⟨rfl, rfl, rfl⟩⟩)⟩

/-- At a write-back return the entry stays dirty in HELD, or goes FREE, or joins the clean list's tail (R89). -/
theorem State.written_cases {s : State} {e : EntryNo} {x : Entry} {v : Nat} {redirty : Bool} (hx : s.entry e = some x)
    (hb : x.body = .write v redirty) :
    (redirty = true ∧ (s.written e).clean = s.clean ∧
        ∃ y, (s.written e).entries = s.entries.set e.val (some y) e.isLt ∧ x.settledAs y (.held v true)) ∨
      (redirty = false ∧
        s.written e = ({ s with carry := s.carry.filter (fun y => decide (y ≠ e)) } : State).freeEntry e) ∨
      (redirty = false ∧ (s.written e).clean = s.clean.filter (fun f => decide (f ≠ e)) ++ [e] ∧
        ∃ y, (s.written e).entries = s.entries.set e.val (some y) e.isLt ∧ x.settledAs y (.held v false)) := by
  unfold State.written
  simp only [hx, hb]
  by_cases hr : redirty = true
  · simp only [if_pos hr]
    exact .inl ⟨hr, rfl, _, rfl, rfl, rfl, rfl⟩
  · simp only [if_neg hr]
    have hf : redirty = false := by simpa using hr
    split
    · exact .inr (.inl ⟨hf, rfl⟩)
    · exact .inr (.inr ⟨hf, rfl, _, rfl, rfl, rfl, rfl⟩)

end Sys2Proof.Machine
end

section
/-!
SUPPORT. Responses and commands keep the agreement of the clean entries with memory.
-/

namespace Sys2Proof.Machine

variable {mem : WinNo → Nat → Nat} {s t : State} {e : EntryNo} {x : Entry}

/-! ### Responses -/

theorem State.fetched_cleanKept {m : Nat} (hs : s.cleanKept mem)
    (hm : ∀ x, s.entry e = some x → m % (s.config x.window).width.modulus = mem x.window x.index) :
    (s.fetched e m).cleanKept mem := by
  unfold State.fetched
  split
  · exact hs
  · rename_i x hx
    split
    case h_1 d marked q hb =>
      dsimp only
      have hview := s.runWaiters_waiterView x d marked (m % (s.config x.window).width.modulus)
      have hval := State.runWaiters_clean (s := s) (x := x) (marked := marked) (d := d)
        (Nat.mod_lt m (Nat.two_pow_pos (s.config x.window).width.bits))
      generalize s.runWaiters x d marked (m % (s.config x.window).width.modulus) = r at hview hval ⊢
      have hr : r.st.cleanKept mem :=
        State.cleanKept_congr (State.cleanSide_eq (State.entries_of_waiterView hview) (State.clean_of_waiterView hview)) hs
      have hxr : cleanPart (r.st.entry e) = none := by
        rw [State.entry_of_entries (State.entries_of_waiterView hview) e, hx]
        exact cleanPart_of_not_clean (by simp [hb])
      obtain ⟨-, -, ⟨-, hc, y, he, hy⟩ | ⟨-, ht⟩ | ⟨hd, hc, y, he, hy, hw, hi⟩⟩ :=
        r.st.settleFetched_cases e x q r.v (decide (d ≠ 0) || r.changed) r.cleared
      · refine State.cleanKept_congr (State.cleanSide_set he hc ?_) hr
        rw [hxr]
        rcases hy with ⟨hy, -⟩ | ⟨hy, -⟩ <;> exact cleanPart_of_not_clean (by simp [hy])
      · rw [ht]
        exact State.freeEntry_cleanKept hr e
      · refine State.cleanKept_join hr he hy ?_ hc
        rw [hval hd, hm x hx, hw, hi]
    all_goals exact hs

theorem State.written_cleanKept (hs : s.cleanKept mem)
    (hm : ∀ x v, s.entry e = some x → x.body = .write v false → v = mem x.window x.index) :
    (s.written e).cleanKept mem := by
  cases hx : s.entry e with
  | none => simpa only [State.written, hx] using hs
  | some x =>
    cases hb : x.body with
    | write v r =>
      obtain ⟨-, hc, y, he, hy, -⟩ | ⟨-, ht⟩ | ⟨rfl, hc, y, he, hy, hw, hi⟩ := State.written_cases hx hb
      · refine State.cleanKept_congr (State.cleanSide_set he hc ?_) hs
        rw [hx]
        simp [cleanPart, hy, hb]
      · rw [ht]
        exact State.freeEntry_cleanKept (s := { s with carry := s.carry.filter (fun y => decide (y ≠ e)) }) hs e
      · refine State.cleanKept_join hs he hy ?_ hc
        rw [hw, hi]
        exact hm x v hx hb
    | _ => simpa only [State.written, hx, hb] using hs

theorem State.drainStart_cleanKept (hs : s.cleanKept mem) (w : WinNo) : (s.drainStart w).cleanKept mem :=
  State.freeEntries_cleanKept (State.cleanKept_congr (State.startFlushes_cleanSide _ _) hs) _

theorem State.faultExit_cleanKept (hs : s.cleanKept mem) (w : WinNo) : (s.faultExit w).cleanKept mem := by
  unfold State.faultExit
  split
  · split
    · split
      · exact hs
      · exact State.drainStart_cleanKept (s := s.setWinState w .draining) hs w
    · exact hs
  all_goals exact hs

theorem State.retrySucceeded_cleanKept (hs : s.cleanKept mem) (x : Entry) : (s.retrySucceeded x).cleanKept mem := by
  unfold State.retrySucceeded
  split
  · exact State.faultExit_cleanKept hs _
  · exact hs

theorem State.fetchOk_cleanKept {m : Nat} (hs : s.cleanKept mem)
    (hm : ∀ x, s.entry e = some x → m % (s.config x.window).width.modulus = mem x.window x.index) :
    (s.fetchOk e m).cleanKept mem := by
  unfold State.fetchOk
  split
  · exact State.retrySucceeded_cleanKept (State.fetched_cleanKept hs hm) _
  · exact hs

theorem State.writeOk_cleanKept (hs : s.cleanKept mem)
    (hm : ∀ x v, s.entry e = some x → x.body = .write v false → v = mem x.window x.index) :
    (s.writeOk e).cleanKept mem := by
  unfold State.writeOk
  split
  · exact State.retrySucceeded_cleanKept (State.written_cleanKept hs hm) _
  · exact hs

/-- A response keeps the clean entries' agreement, where it agrees with memory or is an ERROR. -/
theorem State.arrive_cleanKept {g : Tag} {ok : Bool} {data : BitVec 512} (hs : s.cleanKept mem)
    (hr : ok = true → s.responseAgrees mem g data) : (s.arrive g ok data).cleanKept mem := by
  have hfree : (s.setTag g none).cleanKept mem := hs
  obtain ⟨-, h⟩ | ⟨r, hg, ⟨id, link, -, h⟩ | ⟨e, ho, h⟩ | ⟨k, -, h⟩⟩ := s.arrive_cases g ok data
  · rwa [h]
  · rw [h]
    exact State.cleanKept_congr (State.passCompleted_cleanSide ..) hfree
  · rw [h]
    unfold State.tableResponse
    split
    · exact hfree
    · cases ok with
      | false => split <;> exact State.cleanKept_congr (by simp) hfree
      | true =>
        split
        · rename_i hk
          exact State.fetchOk_cleanKept hfree fun x hx => (hr rfl r e x hg ho hx).1 hk
        · rename_i hk
          exact State.writeOk_cleanKept hfree fun x v hx hb => (hr rfl r e x hg ho hx).2 hk v hb
  · rw [h]
    unfold State.snapResponse
    split
    · exact hfree
    · split
      · exact State.destinationWritten_cleanKept hfree k
      · exact State.cleanKept_congr (State.destinationFailed_cleanSide _ k) hfree

/-! ### Commands -/

theorem State.endFrame_cleanKept {run : State → Reply} (hs : s.cleanKept mem)
    (hrun : ∀ u : State, u.cleanKept mem → (run u).st.cleanKept mem) (code : Byte) :
    (s.endFrame code run).cleanKept mem := by
  cases h : s.takesCommand with
  | true =>
    rw [State.endFrame_taken h]
    exact hrun s.counted hs
  | false =>
    rw [State.endFrame_dropped h]
    exact hs

theorem withWindow_cleanKept {run : WinNo → Reply} (hs : s.cleanKept mem) (hrun : ∀ w, (run w).st.cleanKept mem)
    (w : BitVec 8) : (withWindow w s run).st.cleanKept mem := by
  unfold withWindow
  split
  · exact hrun _
  · exact hs

theorem State.windowLoad_cleanKept (hs : s.cleanKept mem) (a : LoadArgs) : (s.windowLoad a).st.cleanKept mem := by
  refine withWindow_cleanKept hs (fun w => ?_) a.window
  split
  · exact hs
  · split
    · exact hs
    · split <;> exact hs

theorem State.windowArm_cleanKept (hs : s.cleanKept mem) (w : BitVec 8) : (s.windowArm w).st.cleanKept mem := by
  refine withWindow_cleanKept hs (fun w => ?_) w
  split
  case h_1 | h_2 => exact State.cleanKept_congr (State.armingCheck_cleanSide _ w) hs
  all_goals exact hs

theorem State.windowDrain_cleanKept (hs : s.cleanKept mem) (w : BitVec 8) : (s.windowDrain w).st.cleanKept mem := by
  refine withWindow_cleanKept hs (fun w => ?_) w
  split
  · exact hs
  · split
    · exact hs
    · exact State.drainStart_cleanKept (s := s.setWinState w .draining) hs w

theorem State.windowRelease_cleanKept (hs : s.cleanKept mem) (w : BitVec 8) : (s.windowRelease w).st.cleanKept mem := by
  refine withWindow_cleanKept hs (fun w => ?_) w
  split <;> exact hs

theorem State.windowStatus_cleanKept (hs : s.cleanKept mem) (w : BitVec 8) : (s.windowStatus w).st.cleanKept mem :=
  withWindow_cleanKept hs (fun _ => hs) w

theorem State.snapshotStart_cleanKept (hs : s.cleanKept mem) (a : StartArgs) :
    (s.snapshotStart a).st.cleanKept mem := by
  refine withWindow_cleanKept hs (fun w => ?_) a.window
  dsimp only
  repeat' split
  case isFalse.isFalse.isFalse.isFalse => exact State.walkStep_cleanKept (s := { s with snap := _ }) hs
  all_goals exact hs

theorem State.snapshotAbort_cleanKept (hs : s.cleanKept mem) : s.snapshotAbort.st.cleanKept mem := by
  unfold State.snapshotAbort
  split
  · exact State.cleanKept_congr ((State.endCheck_cleanSide _).trans (s.leaveRunning_cleanSide .aborted)) hs
  all_goals exact hs

theorem State.retryWindow_cleanKept (hs : s.cleanKept mem) (w : BitVec 8) : (s.retryWindow w).st.cleanKept mem := by
  refine withWindow_cleanKept hs (fun w => ?_) w
  split
  · exact State.cleanKept_congr (s.reenterAll_cleanSide w) hs
  · exact hs

theorem State.discardWindow_cleanKept (hs : s.cleanKept mem) (w : BitVec 8) : (s.discardWindow w).st.cleanKept mem := by
  refine withWindow_cleanKept hs (fun w => ?_) w
  split
  · exact hs
  · split
    · exact hs
    · exact State.faultExit_cleanKept (State.freeEntries_cleanKept hs _) w

theorem State.flushAllCommand_cleanKept (hs : s.cleanKept mem) : s.flushAllCommand.st.cleanKept mem := by
  unfold State.flushAllCommand
  split
  · exact hs
  · exact State.cleanKept_congr s.flushAllStart_cleanSide hs

theorem State.setLowMark_cleanKept (hs : s.cleanKept mem) (v : BitVec 32) : (s.setLowMark v).st.cleanKept mem := by
  unfold State.setLowMark
  split <;> exact hs

theorem State.setFlushAge_cleanKept (hs : s.cleanKept mem) (v : BitVec 32) : (s.setFlushAge v).st.cleanKept mem := by
  unfold State.setFlushAge
  split <;> exact hs

theorem State.setPrescaler_cleanKept (hs : s.cleanKept mem) (v : BitVec 32) : (s.setPrescaler v).st.cleanKept mem := by
  unfold State.setPrescaler
  split
  · split <;> exact hs
  · exact hs

theorem State.setEnables_cleanKept (hs : s.cleanKept mem) (v : BitVec 32) : (s.setEnables v).st.cleanKept mem := by
  unfold State.setEnables
  split <;> exact hs

theorem State.entryReadReply_cleanKept (hs : s.cleanKept mem) (r : EntryRef) : (s.entryReadReply r).st.cleanKept mem := by
  cases r with
  | byNumber e => exact hs
  | byCounter w i =>
    refine withWindow_cleanKept hs (fun w => ?_) w
    split <;> exact hs

theorem State.softResetFrame_cleanKept (hs : s.cleanKept mem) : s.softResetFrame.cleanKept mem := by
  unfold State.softResetFrame State.softBegin
  dsimp only
  split
  · split <;> exact hs
  · exact hs

theorem State.startFrame_cleanKept (hs : s.cleanKept mem) : s.startFrame.cleanKept mem := by
  unfold State.startFrame
  split <;> exact hs

theorem State.busyFrame_cleanKept (hs : s.cleanKept mem) : s.busyFrame.cleanKept mem := by
  unfold State.busyFrame
  repeat' split
  all_goals exact hs

theorem State.hardReset_cleanKept (s : State) : s.hardReset.cleanKept mem :=
  State.cleanKept_empty (fun _ => Vector.getElem_replicate _) rfl

theorem State.tickOnce_cleanKept (hs : s.cleanKept mem) : s.tickOnce.cleanKept mem :=
  State.cleanKept_congr s.tickOnce_cleanSide hs

/-- Every command keeps the clean entries' agreement with memory, where the OK response it brings agrees with memory. -/
theorem exec_cleanKept (c : Instr) (hs : s.cleanKept mem)
    (hr : ∀ g data, responseOf c = some (g, true, data) → s.responseAgrees mem g data) :
    ∃ t, exec c s = .next t ∧ t.cleanKept mem := by
  have harrive : ∀ g ok data, responseOf c = some (g, ok, data) → (finish s (s.arrive g ok data)).cleanKept mem := by
    intro g ok data hc
    refine finish_cleanKept (State.arrive_cleanKept hs fun hok => hr g data ?_)
    rw [hc, hok]
  have hframe : ∀ code run, (∀ u : State, u.cleanKept mem → (run u).st.cleanKept mem) →
      (finish s (s.endFrame code run)).cleanKept mem :=
    fun code run hrun => finish_cleanKept (State.endFrame_cleanKept hs hrun code)
  have hlone : ∀ code run, (∀ u : State, u.cleanKept mem → (run u).st.cleanKept mem) →
      (s.endFrame code run).cleanKept mem :=
    fun code run hrun => State.endFrame_cleanKept hs hrun code
  cases c <;> refine ⟨_, rfl, ?_⟩
  case hardReset => exact s.hardReset_cleanKept
  case requestTaken r => exact finish_cleanKept (b := { s with channel := s.channel ++ [r] }) hs
  case holdSlotRetry => exact finish_cleanKept (State.retryHold_cleanKept hs)
  case responseDelivery => exact finish_cleanKept (State.cleanKept_congr s.deliver_cleanSide hs)
  case downstreamGrant => exact finish_cleanKept (State.cleanKept_congr s.grant_cleanSide hs)
  case downstreamRequestAccepted => exact finish_cleanKept (b := { s with downReq := none }) hs
  case passThroughCompletion | fetchReturn | writeBackReturn | fetchError | writeBackError | destinationWriteReturn
      | destinationWriteError | tableResponseAbsorbed | snapResponseAbsorbed | orphanResponse =>
    exact harrive _ _ _ rfl
  case windowBecomesActive w => exact finish_cleanKept (State.cleanKept_congr (s.armingCheck_cleanSide w) hs)
  case tickAdvance =>
    split
    · exact hs
    · exact finish_cleanKept (State.tickOnce_cleanKept hs)
  case frameStart => exact State.startFrame_cleanKept hs
  case frameWithoutCommand | nop => exact hs
  case frameBusy => exact State.busyFrame_cleanKept hs
  case unassignedCommand => exact hlone _ _ fun _ hu => hu
  case windowLoad a => exact hframe _ _ fun _ hu => State.windowLoad_cleanKept hu a
  case windowArm w => exact hframe _ _ fun _ hu => State.windowArm_cleanKept hu w
  case windowDrain w => exact hframe _ _ fun _ hu => State.windowDrain_cleanKept hu w
  case windowRelease w => exact hframe _ _ fun _ hu => State.windowRelease_cleanKept hu w
  case windowStatus w => exact hlone _ _ fun _ hu => State.windowStatus_cleanKept hu w
  case windowQuiesce w => exact finish_cleanKept (State.cleanKept_congr (s.drainCheck_cleanSide w) hs)
  case snapshotStart a => exact hframe _ _ fun _ hu => State.snapshotStart_cleanKept hu a
  case snapshotAbort => exact hframe _ _ fun _ hu => State.snapshotAbort_cleanKept hu
  case snapshotStatus => exact hlone _ _ fun _ hu => hu
  case snapshotComplete => exact finish_cleanKept (State.cleanKept_congr s.completionCheck_cleanSide hs)
  case snapshotEnd => exact finish_cleanKept (State.cleanKept_congr s.endCheck_cleanSide hs)
  case walkRetry => exact finish_cleanKept (State.retryWalk_cleanKept hs)
  case faultRead => exact hlone _ _ fun _ hu => hu
  case retry w => exact hframe _ _ fun _ hu => State.retryWindow_cleanKept hu w
  case discard w => exact hframe _ _ fun _ hu => State.discardWindow_cleanKept hu w
  case alertPop => exact hlone _ _ fun _ hu => hu
  case flushAll => exact hframe _ _ fun _ hu => State.flushAllCommand_cleanKept hu
  case flushAllComplete => exact finish_cleanKept (State.cleanKept_congr s.flushAllCheck_cleanSide hs)
  case paramSetLowMark v => exact hframe _ _ fun _ hu => State.setLowMark_cleanKept hu v
  case paramSetFlushAge v => exact hlone _ _ fun _ hu => State.setFlushAge_cleanKept hu v
  case paramSetPrescaler v => exact hlone _ _ fun _ hu => State.setPrescaler_cleanKept hu v
  case paramSetEnables v => exact hlone _ _ fun _ hu => State.setEnables_cleanKept hu v
  case paramGet | mgmtStatus => exact hlone _ _ fun _ hu => hu
  case entryRead r => exact hlone _ _ fun _ hu => State.entryReadReply_cleanKept hu r
  case softReset => exact finish_cleanKept (State.softResetFrame_cleanKept hs)
  case softResetClearing => exact finish_cleanKept (State.clearCheck_cleanKept hs)
  case softResetEnd => exact finish_cleanKept (State.cleanKept_congr s.finishCheck_cleanSide hs)
  case rstNReleased => exact finish_cleanKept (b := { s with rstAsserted := false }) hs

theorem State.clockCycle_cleanKept (hs : s.cleanKept mem) : s.clockCycle.cleanKept mem := by
  unfold State.clockCycle
  split
  · exact hs
  · split
    · exact hs
    · exact finish_cleanKept (State.tickOnce_cleanKept hs)

end Sys2Proof.Machine

open Sys2Proof Sys2Proof.Machine

/-- Settles O10: the clean side of the table (`State.cleanKept`) is kept by every operation, an entry joining it only
with the value its response agrees with memory on. -/
theorem cleanEntriesAgree : Obligations.CleanEntriesAgree := by
  intro s t mem htab hagree hresp hstep
  obtain ⟨-, -, -, -, ⟨hnodup, -⟩, -⟩ := htab
  have hs : s.cleanKept mem := State.cleanKept_iff.mpr ⟨hagree, hnodup⟩
  suffices ht : t.cleanKept mem from (State.cleanKept_iff.mp ht).1
  cases hp : s.pending with
  | nil =>
    rw [step_idle hp] at hstep
    cases hstep
    exact State.clockCycle_cleanKept hs
  | cons c rest =>
    have hexec : exec c { s with pending := rest } = .next t := by
      unfold step at hstep
      rwa [hp] at hstep
    obtain ⟨u, hu, hk⟩ := exec_cleanKept (s := { s with pending := rest }) c hs fun g data hc => hresp c rest g data hp hc
    rw [hexec] at hu
    cases hu
    exact hk

end

section
/-!
SUPPORT. The coherent value of a counter (R2) where one entry of the table is rewritten: which counters it changes, and to
what.
-/

namespace Sys2Proof.Machine

variable {mem : WinNo → Nat → Nat} {s t u : State} {e : EntryNo} {x y : Entry} {o : Option Entry}

/-! ### The entry of a counter (R62) -/

/-- The entry in this place names counter (w, i). -/
def namesCounter (w : WinNo) (i : Nat) (o : Option Entry) : Prop :=
  ∃ x, o = some x ∧ x.window = w ∧ x.index = i

theorem namesCounter_some {w : WinNo} {i : Nat} : namesCounter w i (some x) ↔ x.window = w ∧ x.index = i := by
  simp [namesCounter]

theorem not_namesCounter_none (w : WinNo) (i : Nat) : ¬ namesCounter w i none := by
  simp [namesCounter]

theorem State.not_names_of_lookup_none {w : WinNo} {i : Nat} (h : s.lookup w i = none) (f : EntryNo) :
    ¬ namesCounter w i (s.entry f) :=
  fun ⟨x, hx, hn⟩ => State.lookup_none.mp h f x hx hn

theorem State.eq_of_names {w : WinNo} {i : Nat} {f : EntryNo} (h1 : s.oneEntryEach) (he : namesCounter w i (s.entry e))
    (hf : namesCounter w i (s.entry f)) : e = f := by
  obtain ⟨x, hx, hxw, hxi⟩ := he
  obtain ⟨y, hy, hyw, hyi⟩ := hf
  exact h1 e f x y hx hy (hxw.trans hyw.symm) (hxi.trans hyi.symm)

/-- The entry of a counter is the one place that names it. -/
theorem State.counterEntry_of_names {w : WinNo} {i : Nat} (he : namesCounter w i (s.entry e))
    (hone : ∀ f, f ≠ e → ¬ namesCounter w i (s.entry f)) : s.counterEntry w i = s.entry e := by
  unfold State.counterEntry
  split
  · rename_i f hf
    obtain ⟨x, hx, hw, hi⟩ := State.lookup_some hf
    by_contra hne
    exact hone f (fun h => hne (by rw [h])) ⟨x, hx, hw, hi⟩
  · rename_i hn
    exact absurd he (State.not_names_of_lookup_none hn e)

theorem State.counterEntry_of_lookup_none {w : WinNo} {i : Nat} (h : s.lookup w i = none) :
    s.counterEntry w i = none := by
  simp only [State.counterEntry, h]

theorem State.counterEntry_of_lookup_some {w : WinNo} {i : Nat} (h : s.lookup w i = some e) :
    s.counterEntry w i = s.entry e := by
  simp only [State.counterEntry, h]

/-- States whose places name a counter alike have the same entry for it. -/
theorem State.counterEntry_congr {w : WinNo} {i : Nat} (h : ∀ f, t.entry f = s.entry f ∨
    (¬ namesCounter w i (t.entry f) ∧ ¬ namesCounter w i (s.entry f))) : t.counterEntry w i = s.counterEntry w i := by
  have hlook : t.lookup w i = s.lookup w i := by
    unfold State.lookup
    congr 1
    funext f
    rcases h f with hf | ⟨ht, hs⟩
    · rw [hf]
    · have hmiss : ∀ o : Option Entry, ¬ namesCounter w i o →
          (match o with | some x => decide (x.window = w ∧ x.index = i) | none => false) = false := by
        intro o ho
        cases o with
        | none => rfl
        | some x => exact decide_eq_false fun hx => ho (namesCounter_some.mpr hx)
      exact (hmiss _ ht).trans (hmiss _ hs).symm
  unfold State.counterEntry
  rw [hlook]
  split
  · rename_i f hf
    rcases h f with hf' | ⟨-, hs⟩
    · exact hf'
    · exact absurd (State.lookup_some hf) hs
  · rfl

/-! ### One entry rewritten -/

/-- The table rewrites entry `e` to `o`, and leaves every other entry, the windows and the snapshot's mode. -/
structure State.RewritesEntry (s t : State) (e : EntryNo) (o : Option Entry) : Prop where
  entries : t.entries = s.entries.set e.val o e.isLt
  windows : t.windows = s.windows
  clearing : t.clearing = s.clearing

theorem State.RewritesEntry.entry (h : s.RewritesEntry t e o) (f : EntryNo) :
    t.entry f = if e = f then o else s.entry f :=
  (State.entry_of_entries (s := s.setEntry e o) h.entries f).trans (State.entry_setEntry s e f o)

theorem State.RewritesEntry.entry_ne (h : s.RewritesEntry t e o) {f : EntryNo} (hf : f ≠ e) : t.entry f = s.entry f := by
  rw [h.entry, if_neg hf.symm]

theorem State.RewritesEntry.entry_same (h : s.RewritesEntry t e o) : t.entry e = o := by
  rw [h.entry, if_pos rfl]

theorem State.RewritesEntry.config (h : s.RewritesEntry t e o) (w : WinNo) : t.config w = s.config w :=
  State.config_of_windows h.windows w

theorem State.RewritesEntry.trans {p : Option Entry} (h : s.RewritesEntry t e o) (k : t.RewritesEntry u e p) :
    s.RewritesEntry u e p where
  entries := by rw [k.entries, h.entries, Vector.set_set]
  windows := k.windows.trans h.windows
  clearing := k.clearing.trans h.clearing

/-- An entry left as it is, is rewritten to itself. -/
theorem State.rewritesEntry_self (he : t.entries = s.entries) (hw : t.windows = s.windows)
    (hc : t.clearing = s.clearing) : s.RewritesEntry t e (s.entry e) where
  entries := by
    rw [he]
    exact (Vector.set_getElem_self e.isLt).symm
  windows := hw
  clearing := hc

theorem State.setEntry_rewrites (h : u.waiterView = s.waiterView) (e : EntryNo) (o : Option Entry) :
    s.RewritesEntry (u.setEntry e o) e o where
  entries := congrArg (fun es => es.set e.val o e.isLt) (State.entries_of_waiterView h)
  windows := (State.windows_of_waiterView h : u.windows = s.windows)
  clearing := (State.clearing_of_waiterView h : u.clearing = s.clearing)

/-! ### The coherent value -/

theorem State.coherent_of_counterEntry {w : WinNo} {i : Nat} (h : s.counterEntry w i = some x) :
    s.coherent mem w i = x.coherent (s.config w) s.clearing (mem w i) := by
  simp only [State.coherent, h]

theorem State.coherent_of_no_entry {w : WinNo} {i : Nat} (h : s.counterEntry w i = none) :
    s.coherent mem w i = mem w i := by
  simp only [State.coherent, h]

/-- The counter that the rewritten entry names takes its value from it. -/
theorem State.RewritesEntry.coherent_named {w : WinNo} {i : Nat} (h : s.RewritesEntry t e (some y))
    (hy : namesCounter w i (some y)) (hone : ∀ f, f ≠ e → ¬ namesCounter w i (s.entry f)) :
    t.coherent mem w i = y.coherent (s.config w) s.clearing (mem w i) := by
  have hc : t.counterEntry w i = some y := by
    rw [State.counterEntry_of_names (by rwa [h.entry_same]) fun f hf => by rw [h.entry_ne hf]; exact hone f hf,
      h.entry_same]
  rw [State.coherent_of_counterEntry hc, h.config, h.clearing]

/-- A counter that only the old entry named stands in memory. -/
theorem State.RewritesEntry.coherent_dropped {w : WinNo} {i : Nat} (h : s.RewritesEntry t e o)
    (hone : ∀ f, f ≠ e → ¬ namesCounter w i (s.entry f)) (ho : ¬ namesCounter w i o) :
    t.coherent mem w i = mem w i := by
  refine State.coherent_of_no_entry (State.counterEntry_of_lookup_none (State.lookup_none.mpr fun f z hz hn => ?_))
  have hf : namesCounter w i (t.entry f) := ⟨z, hz, hn⟩
  rw [h.entry] at hf
  split at hf
  · exact ho hf
  · rename_i hne
    exact hone f (Ne.symm hne) hf

/-- A counter that neither the old nor the new entry names keeps its value. -/
theorem State.RewritesEntry.coherent_other {w : WinNo} {i : Nat} (h : s.RewritesEntry t e o)
    (hs : ¬ namesCounter w i (s.entry e)) (ho : ¬ namesCounter w i o) : t.coherent mem w i = s.coherent mem w i := by
  have hc : t.counterEntry w i = s.counterEntry w i := State.counterEntry_congr fun f => by
    by_cases hf : f = e
    · subst hf
      rw [h.entry_same]
      exact .inr ⟨ho, hs⟩
    · exact .inl (h.entry_ne hf)
  simp only [State.coherent, hc, h.config, h.clearing]

/-- An entry with a live value gives its counter that value. -/
theorem Entry.coherent_of_liveValue {v : Nat} (h : x.body.liveValue = some v) (c : WinConfig) (clear : Bool) (m : Nat) :
    x.coherent c clear m = v := by
  cases hb : x.body <;> simp_all [Entry.coherent, Body.liveValue]

end Sys2Proof.Machine
end

section
/-!
SUPPORT. The table's operations as rewritings of one entry.
-/

namespace Sys2Proof.Machine

variable {mem : WinNo → Nat → Nat} {s t : State} {e : EntryNo} {x y : Entry}

/-- The same counter with a live value. -/
def Entry.liveAs (x y : Entry) (v : Nat) : Prop :=
  y.window = x.window ∧ y.index = x.index ∧ y.body.liveValue = some v

theorem Body.liveValue_withValue {b : Body} {v : Nat} (h : b.liveValue = some v) (v' : Nat) :
    (b.withValue v').liveValue = some v' := by
  cases b <;> simp_all [Body.liveValue, Body.withValue]

theorem State.markUpdate_rewrites {v : Nat} (hx : s.entry e = some x) (hv : x.body.liveValue = some v) :
    ∃ y, s.RewritesEntry (s.markUpdate e) e (some y) ∧ x.liveAs y v := by
  unfold State.markUpdate
  rw [hx]
  dsimp only
  cases hb : x.body with
  | held u d =>
    rw [hb] at hv
    cases d <;> exact ⟨_, ⟨rfl, rfl, rfl⟩, rfl, rfl, hv⟩
  | write u r =>
    rw [hb] at hv
    exact ⟨_, ⟨rfl, rfl, rfl⟩, rfl, rfl, hv⟩
  | _ => simp [hb, Body.liveValue] at hv

theorem State.useClean_rewrites (hx : s.entry e = some x) : s.RewritesEntry (s.useClean e) e (some x) := by
  have hsame : (s.useClean e).entries = s.entries ∧ (s.useClean e).windows = s.windows ∧
      (s.useClean e).clearing = s.clearing := by
    unfold State.useClean
    rw [hx]
    dsimp only
    split <;> exact ⟨rfl, rfl, rfl⟩
  rw [← hx]
  exact State.rewritesEntry_self hsame.1 hsame.2.1 hsame.2.2

/-- An operation applied to an entry's live value (R79, R80). -/
theorem State.applyNow_rewrites {v : Nat} (hx : s.entry e = some x) (hv : x.body.liveValue = some v) (o : Operation)
    (id : UpId) (link : Nat) :
    ∃ y, s.RewritesEntry (s.applyNow e o id link) e (some y) ∧
      x.liveAs y (applyValue (s.config x.window) o v) := by
  unfold State.applyNow
  simp only [hx, hv]
  generalize hu : (if o.kind.isPosted = true then s.raise x.window x.index (applyOutcomes (s.config x.window) o v)
    else (s.raise x.window x.index (applyOutcomes (s.config x.window) o v)).reportValue id link v) = u
  have hview : u.waiterView = s.waiterView := by
    rw [← hu]
    split
    · exact State.waiterView_raise ..
    · exact (State.waiterView_reportValue ..).trans (State.waiterView_raise ..)
  set z : Entry := { x with body := x.body.withValue (applyValue (s.config x.window) o v), lastUse := s.tick } with hz
  have hset := State.setEntry_rewrites hview e (some z)
  have hlive : z.body.liveValue = some (applyValue (s.config x.window) o v) := Body.liveValue_withValue hv _
  split
  · obtain ⟨y, hy, hyw, hyi, hyv⟩ := State.markUpdate_rewrites hset.entry_same hlive
    exact ⟨y, hset.trans hy, hyw, hyi, hyv⟩
  · exact ⟨z, hset.trans (State.useClean_rewrites hset.entry_same), rfl, rfl, hlive⟩

/-- A capture taken at once from an entry's live value (R83). -/
theorem State.captureNow_rewrites {v : Nat} (hx : s.entry e = some x) (hv : x.body.liveValue = some v) (k : SlotNo) :
    ∃ y, s.RewritesEntry (s.captureNow e k) e (some y) ∧ x.liveAs y (if s.clearing = true then 0 else v) := by
  unfold State.captureNow
  simp only [hx, hv]
  have hview := State.waiterView_slotCaptured s k v
  split
  · set z : Entry := { x with body := x.body.withValue 0, lastUse := s.tick }
    have hset := State.setEntry_rewrites hview e (some z)
    obtain ⟨y, hy, hyw, hyi, hyv⟩ :=
      State.markUpdate_rewrites hset.entry_same (x := z) (Body.liveValue_withValue hv 0)
    exact ⟨y, hset.trans hy, hyw, hyi, hyv⟩
  · have hset := State.setEntry_rewrites hview e (some { x with lastUse := s.tick })
    exact ⟨_, hset.trans (State.useClean_rewrites hset.entry_same), rfl, rfl, hv⟩

/-- The entry an allocation takes is FREE afterwards; before it was FREE, or stood in the clean list (R64, R65). -/
theorem State.obtain_rewrites (h : s.obtain = some (e, t)) :
    s.RewritesEntry t e none ∧ (s.entry e = none ∨ e ∈ s.clean) := by
  rcases State.obtain_cases h with ⟨hf, rfl⟩ | ⟨-, rest, hc, rfl⟩
  · have hfree := State.lowestFree_free hf
    exact ⟨hfree ▸ State.rewritesEntry_self rfl rfl rfl, .inl hfree⟩
  · exact ⟨⟨rfl, rfl, rfl⟩, .inr (by simp [hc])⟩

/-- An ADD folded into the delta of an entry without waiters (R75, R76). -/
theorem State.foldAdd_rewrites {d : Nat} {m : Bool} (hx : s.entry e = some x) (hw : x.waiters = [])
    (hb : x.body = .accum d m ∨ ∃ q, x.body = .fetch d m q) (a : Nat) (clear : Bool) (v : Nat) :
    ∃ y, s.RewritesEntry (s.foldAdd e a) e (some y) ∧ (y.window = x.window ∧ y.index = x.index) ∧
      y.coherent (s.config x.window) clear v =
        policySum (s.config x.window).policy (s.config x.window).width (x.coherent (s.config x.window) clear v) a := by
  unfold State.foldAdd State.mapEntry
  rcases hb with hb | ⟨q, hb⟩ <;> simp only [hx, hb] <;>
    refine ⟨_, ⟨rfl, rfl, rfl⟩, ⟨rfl, rfl⟩, ?_⟩ <;>
    simp only [Entry.coherent, hb, hw, List.foldl_nil, runValue, policySum_assoc]

/-- Waiters queued on an entry in ACCUM or FETCH (R77, R78, R82). -/
theorem State.appendWaiters_rewrites (hx : s.entry e = some x)
    (hb : (∃ d m, x.body = .accum d m ∧ x.waiters = []) ∨ ∃ d m q, x.body = .fetch d m q) (ws : List Waiter)
    (update marked : Bool) (c : WinConfig) (clear : Bool) (v : Nat) :
    ∃ y, s.RewritesEntry (s.appendWaiters e ws update marked) e (some y) ∧ (y.window = x.window ∧ y.index = x.index) ∧
      y.coherent c clear v = ws.foldl (waiterValue c clear) (x.coherent c clear v) := by
  unfold State.appendWaiters
  rcases hb with ⟨d, m, hb, hw⟩ | ⟨d, m, q, hb⟩
  · simp only [hx, hb]
    refine ⟨_, ⟨rfl, rfl, rfl⟩, ⟨rfl, rfl⟩, ?_⟩
    simp only [Entry.coherent, hb, hw, List.nil_append]
  · simp only [hx, hb]
    refine ⟨_, ⟨rfl, rfl, rfl⟩, ⟨rfl, rfl⟩, ?_⟩
    simp only [Entry.coherent, hb, List.foldl_append]

/-- An operation's waiters, at their place in acceptance order (R3, R82). -/
theorem foldl_opWaiters (c : WinConfig) (clear : Bool) (cap : Option SlotNo) (o : Operation) (id : UpId) (link v : Nat) :
    (opWaiters cap o id link).foldl (waiterValue c clear) v =
      applyValue c o (if cap.isSome = true ∧ clear = true then 0 else v) := by
  cases cap <;> simp [opWaiters, waiterValue]

end Sys2Proof.Machine
end

section
/-!
SUPPORT. Acceptance and fetch returns, by the coherent value of every counter.
-/

namespace Sys2Proof.Machine

variable {mem : WinNo → Nat → Nat} {s t : State} {e : EntryNo} {x y : Entry}

/-! ### What an offer that lacks nothing has (R66) -/

theorem State.obtain_isSome (h : s.canObtain = true) : ∃ e t, s.obtain = some (e, t) := by
  unfold State.canObtain at h
  unfold State.obtain
  cases hl : s.lowestFree with
  | some e => exact ⟨e, s, rfl⟩
  | none =>
    cases hc : s.clean with
    | cons e rest => exact ⟨_, _, rfl⟩
    | nil => simp [hl, hc] at h

/-- An offer that lacks nothing has an entry, a slot for its early capture, and no STRANDED entry before it. -/
theorem State.offerLack_none {w : WinNo} {i : Nat} {k : OpKind} (h : s.offerLack w i k = none) :
    (s.lookup w i = none → s.canObtain = true) ∧ (s.earlyCapture w i k = true → s.earlySlot ≠ none) ∧
      ∀ x, s.counterEntry w i = some x → x.body.isStranded = false := by
  unfold State.offerLack at h
  dsimp only at h
  split at h
  · cases h
  · rename_i hentry
    split at h
    · cases h
    · split at h
      · cases h
      · rename_i hslot
        split at h
        · cases h
        · rename_i hneed
          refine ⟨fun hl => by simpa [hl] using hentry, fun hc hn => hslot (by simp [hc, hn]), fun x hx => ?_⟩
          by_contra hstr
          have hfree : s.freeWaiters ≤ Config.waiterRecords := Nat.sub_le ..
          rw [hx] at hneed
          cases hb : x.body <;> simp_all [Body.isStranded, waiterNeed]

/-! ### Acceptance -/

/-- What an accepted operation makes of the table: one entry is rewritten to one that gives its counter the value of the
operation, applied after the early capture; that entry held the counter before, or was FREE or clean. -/
structure State.Carries (s t : State) (mem : WinNo → Nat → Nat) (w : WinNo) (i : Nat) (o : Operation) (captured : Bool)
    (e : EntryNo) (y : Entry) : Prop where
  rewrites : s.RewritesEntry t e (some y)
  names : y.window = w ∧ y.index = i
  value : y.coherent (s.config w) s.clearing (mem w i) =
    applyValue (s.config w) o (if captured = true ∧ s.clearing = true then 0 else s.coherent mem w i)
  place : s.lookup w i = some e ∨ s.lookup w i = none ∧ (s.entry e = none ∨ e ∈ s.clean)

/-- An operation carried out on a counter without an entry (R74, R77). -/
theorem State.carryOut_allocates (hfits : s.memFits mem) {w : WinNo} {i : Nat} (hl : s.lookup w i = none)
    (hcan : s.canObtain = true) (o : Operation) (id : UpId) (link : Nat) (cap : Option SlotNo) :
    ∃ e y, s.Carries (s.carryOut w i o id link cap) mem w i o cap.isSome e y := by
  obtain ⟨e, t, ho⟩ := State.obtain_isSome hcan
  obtain ⟨ht, hplace⟩ := State.obtain_rewrites ho
  have hmem : s.coherent mem w i = mem w i := State.coherent_of_no_entry (State.counterEntry_of_lookup_none hl)
  unfold State.carryOut
  simp only [hl, ho]
  split
  · rename_i hblind
    simp only [Bool.and_eq_true, Option.isNone_iff_eq_none] at hblind
    obtain ⟨hadd, rfl⟩ := hblind
    have hk : o.kind = .add := by cases hk : o.kind <;> simp_all [OpKind.isAdd]
    refine ⟨e, _, ⟨ht.trans ⟨rfl, rfl, rfl⟩, ⟨rfl, rfl⟩, ?_, .inr ⟨hl, hplace⟩⟩⟩
    rw [applyValue_add hk, hmem]
    rfl
  · refine ⟨e, _, ⟨ht.trans ⟨rfl, rfl, rfl⟩, ⟨rfl, rfl⟩, ?_, .inr ⟨hl, hplace⟩⟩⟩
    rw [← foldl_opWaiters _ _ cap o id link, hmem]
    simp only [Entry.coherent, runValue_zero (hfits w i)]

/-- An operation carried out on an entry in ACCUM or FETCH is folded or queued (R75 to R78). -/
theorem State.gathers {d : Nat} {m : Bool} (hx : s.entry e = some x)
    (hb : (x.body = .accum d m ∧ x.waiters = []) ∨ ∃ q, x.body = .fetch d m q) (o : Operation) (id : UpId) (link : Nat)
    (cap : Option SlotNo) (fold : Bool) (hfold : fold = true → o.kind = .add ∧ cap = none ∧ x.waiters = []) :
    let t := if fold = true then s.foldAdd e o.amount
      else s.appendWaiters e (opWaiters cap o id link) o.kind.isUpdate cap.isSome
    let c := s.config x.window
    ∃ y, s.RewritesEntry t e (some y) ∧ (y.window = x.window ∧ y.index = x.index) ∧
      y.coherent c s.clearing (mem x.window x.index) = applyValue c o
        (if cap.isSome = true ∧ s.clearing = true then 0 else x.coherent c s.clearing (mem x.window x.index)) := by
  dsimp only
  split
  · rename_i hf
    obtain ⟨hk, rfl, hw⟩ := hfold hf
    obtain ⟨y, hy, hn, hv⟩ :=
      State.foldAdd_rewrites hx hw (hb.imp (·.1) fun h => h) o.amount s.clearing (mem x.window x.index)
    exact ⟨y, hy, hn, by rw [hv, applyValue_add hk]; rfl⟩
  · rw [← foldl_opWaiters _ _ cap o id link]
    exact State.appendWaiters_rewrites hx (hb.imp (fun h => ⟨d, m, h⟩) fun ⟨q, h⟩ => ⟨d, m, q, h⟩) ..

/-- An operation carried out on an entry in HELD or WRITE is applied at once, after its early capture (R79, R80, R83). -/
theorem State.appliesNow {v : Nat} (hx : s.entry e = some x) (hv : x.body.liveValue = some v) (o : Operation) (id : UpId)
    (link : Nat) (cap : Option SlotNo) :
    let t := match cap with
      | some k => (s.captureNow e k).applyNow e o id link
      | none => s.applyNow e o id link
    ∃ y, s.RewritesEntry t e (some y) ∧
      x.liveAs y (applyValue (s.config x.window) o (if cap.isSome = true ∧ s.clearing = true then 0 else v)) := by
  cases cap with
  | none => simpa using State.applyNow_rewrites hx hv o id link
  | some k =>
    obtain ⟨z, hz, hzw, hzi, hzv⟩ := State.captureNow_rewrites hx hv k
    obtain ⟨y, hy, hyw, hyi, hyv⟩ := State.applyNow_rewrites hz.entry_same hzv o id link
    refine ⟨y, hz.trans hy, hyw.trans hzw, hyi.trans hzi, ?_⟩
    simpa [hzw, hz.config] using hyv

theorem OpKind.eq_add_of_isAdd {k : OpKind} (h : k.isAdd = true) : k = .add := by
  cases k <;> simp_all [OpKind.isAdd]

/-- An operation carried out on a counter's entry (R75 to R80). -/
theorem State.carryOut_on_entry (hwait : s.accumHasNoWaiters) {w : WinNo} {i : Nat} (hl : s.lookup w i = some e)
    (hstr : ∀ x, s.entry e = some x → x.body.isStranded = false) (o : Operation) (id : UpId) (link : Nat)
    (cap : Option SlotNo) : ∃ y, s.Carries (s.carryOut w i o id link cap) mem w i o cap.isSome e y := by
  obtain ⟨x, hx, rfl, rfl⟩ := State.lookup_some hl
  have hcoh : s.coherent mem x.window x.index = x.coherent (s.config x.window) s.clearing (mem x.window x.index) :=
    State.coherent_of_counterEntry ((State.counterEntry_of_lookup_some hl).trans hx)
  have hdone : ∀ t, (∃ y, s.RewritesEntry t e (some y) ∧ (y.window = x.window ∧ y.index = x.index) ∧
      y.coherent (s.config x.window) s.clearing (mem x.window x.index) = applyValue (s.config x.window) o
        (if cap.isSome = true ∧ s.clearing = true then 0
         else x.coherent (s.config x.window) s.clearing (mem x.window x.index))) →
      ∃ y, s.Carries t mem x.window x.index o cap.isSome e y := fun t ⟨y, hy, hn, hv⟩ =>
    ⟨y, hy, hn, by rw [hv, hcoh], .inl hl⟩
  have hlive : ∀ v, x.body.liveValue = some v → ∃ y, s.Carries (match cap with
      | some k => (s.captureNow e k).applyNow e o id link
      | none => s.applyNow e o id link) mem x.window x.index o cap.isSome e y := fun v hv => by
    obtain ⟨y, hy, hyw, hyi, hyv⟩ := State.appliesNow hx hv o id link cap
    refine hdone _ ⟨y, hy, ⟨hyw, hyi⟩, ?_⟩
    rw [Entry.coherent_of_liveValue hyv, Entry.coherent_of_liveValue hv]
  unfold State.carryOut
  simp only [hl, hx]
  cases hb : x.body with
  | accum d m =>
    have hw := hwait e x d m hx hb
    exact hdone _ (State.gathers hx (.inl ⟨hb, hw⟩) o id link cap _ fun hf => by
      simp only [Bool.and_eq_true, Option.isNone_iff_eq_none] at hf
      exact ⟨OpKind.eq_add_of_isAdd hf.1, hf.2, hw⟩)
  | fetch d m q =>
    exact hdone _ (State.gathers hx (.inr ⟨q, hb⟩) o id link cap _ fun hf => by
      simp only [Bool.and_eq_true, Option.isNone_iff_eq_none, decide_eq_true_eq] at hf
      exact ⟨OpKind.eq_add_of_isAdd hf.1.1, hf.1.2, hf.2⟩)
  | held v d => exact hlive v (by rw [hb]; rfl)
  | write v r => exact hlive v (by rw [hb]; rfl)
  | strandedFetch d m q | strandedWrite v =>
    have hn := hstr x hx
    rw [hb] at hn
    cases hn

/-- Where an operation is carried out, its counter's coherent value changes by its effect, and no other counter's. -/
theorem State.Carries.coherent {w : WinNo} {i : Nat} {o : Operation} {captured : Bool} (h1 : s.oneEntryEach)
    (hclean : s.cleanAgrees mem) (h : s.Carries t mem w i o captured e y) (v : WinNo) (j : Nat) :
    t.coherent mem v j = if v = w ∧ j = i then
      applyValue (s.config w) o (if captured = true ∧ s.clearing = true then 0 else s.coherent mem w i)
    else s.coherent mem v j := by
  have hy : ∀ v j, namesCounter v j (some y) ↔ v = w ∧ j = i := fun v j => by
    rw [namesCounter_some, h.names.1, h.names.2, eq_comm, @eq_comm _ i]
  split
  · rename_i hvj
    obtain ⟨rfl, rfl⟩ := hvj
    rw [← h.value]
    refine h.rewrites.coherent_named ((hy v j).mpr ⟨rfl, rfl⟩) fun f hf hn => ?_
    rcases h.place with hl | ⟨hl, -⟩
    · exact hf (State.eq_of_names h1 hn (State.lookup_some hl))
    · exact State.not_names_of_lookup_none hl f hn
  · rename_i hvj
    have hnew : ¬ namesCounter v j (some y) := fun hn => hvj ((hy v j).mp hn)
    by_cases hold : namesCounter v j (s.entry e)
    · rw [h.rewrites.coherent_dropped (fun f hf hn => hf (State.eq_of_names h1 hn hold)) hnew]
      obtain ⟨x, hx, rfl, rfl⟩ := hold
      rcases h.place with hl | ⟨-, hfree | hmem⟩
      · obtain ⟨z, hz, hzw, hzi⟩ := State.lookup_some hl
        obtain rfl : x = z := Option.some.inj (hx.symm.trans hz)
        exact absurd ⟨hzw, hzi⟩ hvj
      · rw [hx] at hfree
        cases hfree
      · obtain ⟨z, u, hz, hzb⟩ := hclean.2 e hmem
        obtain rfl : x = z := Option.some.inj (hx.symm.trans hz)
        have hc : s.counterEntry x.window x.index = some x := by
          rw [State.counterEntry_of_names ⟨x, hx, rfl, rfl⟩ fun f hf hn =>
            hf (State.eq_of_names h1 hn ⟨x, hx, rfl, rfl⟩), hx]
        rw [State.coherent_of_counterEntry hc, Entry.coherent_of_liveValue (v := u) (by rw [hzb]; rfl)]
        exact (hclean.1 e x u hx hzb).symm
    · exact h.rewrites.coherent_other hold hnew

theorem State.carryOut_carries (hfits : s.memFits mem) (hwait : s.accumHasNoWaiters) {w : WinNo} {i : Nat}
    (hcan : s.lookup w i = none → s.canObtain = true)
    (hstr : ∀ x, s.counterEntry w i = some x → x.body.isStranded = false) (o : Operation) (id : UpId) (link : Nat)
    (cap : Option SlotNo) : ∃ e y, s.Carries (s.carryOut w i o id link cap) mem w i o cap.isSome e y := by
  cases hl : s.lookup w i with
  | none => exact State.carryOut_allocates hfits hl (hcan hl) o id link cap
  | some e =>
    refine ⟨e, State.carryOut_on_entry hwait hl (fun x hx => hstr x ?_) o id link cap⟩
    rw [State.counterEntry_of_lookup_some hl, hx]

/-! ### Fetch returns (R85 to R87) -/

/-- A fetch return rewrites its entry, within its counter's coherent value. -/
theorem State.fetched_rewrites {d m : Nat} {marked : Bool} {q : FetchCause} (hx : s.entry e = some x)
    (hb : x.body = .fetch d marked q) (hm : m < (s.config x.window).width.modulus) :
    (s.RewritesEntry (s.fetched e m) e none ∧ x.coherent (s.config x.window) s.clearing m = m) ∨
      ∃ y, s.RewritesEntry (s.fetched e m) e (some y) ∧
        x.liveAs y (x.coherent (s.config x.window) s.clearing m) := by
  have hv : (s.runWaiters x d marked m).v = x.coherent (s.config x.window) s.clearing m := by
    rw [State.runWaiters_v]
    simp only [Entry.coherent, hb]
  have hclean := State.runWaiters_clean (s := s) (x := x) (marked := marked) (d := d) hm
  have hview := s.runWaiters_waiterView x d marked m
  unfold State.fetched
  simp only [hx, hb, Nat.mod_eq_of_lt hm]
  generalize s.runWaiters x d marked m = r at hv hclean hview ⊢
  have hcases := r.st.settleFetched_cases e x q r.v (decide (d ≠ 0) || r.changed) r.cleared
  generalize r.st.settleFetched e x q r.v (decide (d ≠ 0) || r.changed) r.cleared = t at hcases ⊢
  obtain ⟨hwin, hsnap, hcases⟩ := hcases
  have hrewrites : ∀ o, t.entries = r.st.entries.set e.val o e.isLt → s.RewritesEntry t e o := fun o he =>
    ⟨by rw [he, State.entries_of_waiterView hview], hwin.trans (State.windows_of_waiterView hview),
      (by simp only [State.clearing, hsnap] : t.clearing = r.st.clearing).trans (State.clearing_of_waiterView hview)⟩
  rcases hcases with ⟨-, -, y, he, hy⟩ | ⟨hd, ht⟩ | ⟨-, -, y, he, hyb, hyw, hyi⟩
  · refine .inr ⟨y, hrewrites _ he, ?_⟩
    rw [← hv]
    rcases hy with ⟨hyb, hyw, hyi⟩ | ⟨hyb, hyw, hyi⟩ <;> exact ⟨hyw, hyi, by rw [hyb]; rfl⟩
  · refine .inl ⟨hrewrites none (by rw [ht]; rfl), ?_⟩
    rw [← hv, hclean hd]
  · refine .inr ⟨y, hrewrites _ he, hyw, hyi, ?_⟩
    rw [hyb, ← hv]
    rfl

end Sys2Proof.Machine

open Sys2Proof Sys2Proof.Machine

/-- Settles O26: an offer that lacks nothing is carried out (`State.carryOut_carries`), which changes its own counter's
coherent value alone (`State.Carries.coherent`). -/
theorem acceptanceKeepsCoherence : Obligations.AcceptanceKeepsCoherence := by
  intro s mem w i o id link h1 hclean hfits hwait hlack v j
  obtain ⟨hcan, hslot, hstr⟩ := State.offerLack_none hlack
  unfold State.accept
  cases hearly : s.earlyCapture w i o.kind with
  | false =>
    obtain ⟨e, y, hc⟩ := State.carryOut_carries hfits hwait hcan hstr o id link none
    simpa using hc.coherent h1 hclean v j
  | true =>
    obtain ⟨k, hk⟩ := Option.ne_none_iff_exists'.mp (hslot hearly)
    obtain ⟨e, y, hc⟩ := State.carryOut_carries (s := s.takeEarly i k) (mem := mem) hfits hwait hcan hstr o id link
      (some k)
    have hcoh := State.Carries.coherent (s := s.takeEarly i k) h1 hclean hc v j
    simp only [Option.isSome_some, true_and] at hcoh
    simp only [hk, if_true, true_and]
    exact hcoh

/-- Settles O27: a fetch return rewrites its entry within its counter's coherent value (`State.fetched_rewrites`). -/
theorem fetchReturnKeepsCoherence : Obligations.FetchReturnKeepsCoherence := by
  intro s mem e x d marked q h1 hfits hx hb v j
  have hnames : namesCounter x.window x.index (s.entry e) := ⟨x, hx, rfl, rfl⟩
  have hone : ∀ f, f ≠ e → ¬ namesCounter x.window x.index (s.entry f) := fun f hf hn =>
    hf (State.eq_of_names h1 hn hnames)
  have hbefore : s.coherent mem x.window x.index = x.coherent (s.config x.window) s.clearing (mem x.window x.index) :=
    State.coherent_of_counterEntry ((State.counterEntry_of_names hnames hone).trans hx)
  have hother : ¬ (v = x.window ∧ j = x.index) → ¬ namesCounter v j (s.entry e) := fun hvj hn => by
    rw [hx, namesCounter_some] at hn
    exact hvj ⟨hn.1.symm, hn.2.symm⟩
  rcases State.fetched_rewrites hx hb (hfits x.window x.index) with ⟨hr, hv⟩ | ⟨y, hr, hyw, hyi, hv⟩
  · by_cases hvj : v = x.window ∧ j = x.index
    · obtain ⟨rfl, rfl⟩ := hvj
      rw [hr.coherent_dropped hone (not_namesCounter_none _ _), hbefore, hv]
    · exact hr.coherent_other (hother hvj) (not_namesCounter_none v j)
  · by_cases hvj : v = x.window ∧ j = x.index
    · obtain ⟨rfl, rfl⟩ := hvj
      rw [hr.coherent_named (namesCounter_some.mpr ⟨hyw, hyi⟩) hone, Entry.coherent_of_liveValue hv, hbefore]
    · refine hr.coherent_other (hother hvj) fun hn => hvj ?_
      rw [namesCounter_some, hyw, hyi] at hn
      exact ⟨hn.1.symm, hn.2.symm⟩

end

section
/-!
SUPPORT. The decoding of a counter request (R4 to R7): the plane of an address, the access-form check in words, and when a
request decodes.
-/

namespace Sys2Proof.Machine

variable {c : WinConfig} {r : Request}

/-- Where the two ranges of a window are disjoint, an address lies in one plane at most (R4). -/
theorem WinConfig.plane_unique (hdisj : ¬ c.storageRange.shares c.aliasRange) {a : Nat} {p q : Plane}
    (hp : c.planeBase p ≤ a ∧ a < c.planeBase p + c.span) (hq : c.planeBase q ≤ a ∧ a < c.planeBase q + c.span) :
    p = q := by
  have hshare : ¬ (c.storage.toNat ≤ a ∧ a < c.storage.toNat + c.span ∧ c.aliasBase.toNat ≤ a ∧
      a < c.aliasBase.toNat + 4 * c.span) := fun h => hdisj ⟨a, h⟩
  cases p <;> cases q <;> simp only [WinConfig.planeBase, reduceCtorEq] at hp hq ⊢ <;> omega

theorem WinConfig.planeOf_holds {a : Nat} {p : Plane} (h : c.planeOf a = some p) :
    c.planeBase p ≤ a ∧ a < c.planeBase p + c.span :=
  of_decide_eq_true (List.find?_some (p := fun p => decide (c.planeBase p ≤ a ∧ a < c.planeBase p + c.span)) h)

/-- An address of a plane's range is of that plane. -/
theorem WinConfig.planeOf_eq (hdisj : ¬ c.storageRange.shares c.aliasRange) {a : Nat} {p : Plane}
    (hp : c.planeBase p ≤ a ∧ a < c.planeBase p + c.span) : c.planeOf a = some p := by
  cases h : c.planeOf a with
  | none =>
    have hmem : p ∈ [Plane.direct, .add, .sub, .max, .take] := by cases p <;> simp
    exact absurd (decide_eq_true hp) (List.find?_eq_none.mp h p hmem)
  | some q => rw [WinConfig.plane_unique hdisj (WinConfig.planeOf_holds h) hp]

/-- The access-form check, condition by condition (R6). -/
theorem legalForm_iff {p : Plane} {k : OpKind} :
    legalForm c p k r = true ↔
      r.size.bytes ≤ 16 ∧ r.addr.toNat % r.size.bytes = 0 ∧
        c.byteOffset p r.addr.toNat + r.size.bytes ≤ c.width.bytes ∧ (r.kind = .read ∨ allEnabled r = true) ∧
        (k = .max ∨ k = .take → r.size.bytes = c.width.bytes ∧ c.byteOffset p r.addr.toNat = 0) := by
  cases k <;> simp [legalForm, and_assoc]

theorem decodeCounter_of_legal {w : WinNo} {p : Plane} {k : OpKind} (hp : c.planeOf r.addr.toNat = some p)
    (hk : planeOperation p r.kind = some k) (hl : legalForm c p k r = true) :
    decodeCounter w c r = some
      { window := w, plane := p, index := c.counterIndex p r.addr.toNat
        op := { kind := k, lane := c.byteOffset p r.addr.toNat / 4, lanes := r.size.bytes / 4
                x := requestOperand r } } := by
  simp only [decodeCounter, hp, hk, hl, if_true]

/-- A request that decodes has a plane, an operation and a legal form. -/
theorem decodeCounter_ne_none {w : WinNo} (h : decodeCounter w c r ≠ none) :
    ∃ p k, c.planeOf r.addr.toNat = some p ∧ planeOperation p r.kind = some k ∧ legalForm c p k r = true := by
  unfold decodeCounter at h
  split at h
  · exact absurd rfl h
  · rename_i p hp
    split at h
    · exact absurd rfl h
    · rename_i k hk
      split at h
      · rename_i hl
        exact ⟨p, k, hp, hk, hl⟩
      · exact absurd rfl h

theorem ReqSize.four_le_bytes (z : ReqSize) : 4 ≤ z.bytes := by
  cases z <;> decide

/-- A request no wider than a counter has a size that divides the counter's (R1, R40). -/
theorem ReqSize.bytes_dvd_width {z : ReqSize} {l : Width} (h : z.bytes ≤ l.bytes) : z.bytes ∣ l.bytes := by
  cases z <;> cases l <;> revert h <;> decide

/-- The byte offset and the counter index of lane `lane` of counter `i` (R4). -/
theorem WinConfig.offset_and_index {p : Plane} {a i lane : Nat} (ha : a = c.planeBase p + c.width.bytes * i + 4 * lane)
    (hlane : 4 * lane < c.width.bytes) : c.byteOffset p a = 4 * lane ∧ c.counterIndex p a = i := by
  have hsub : a - c.planeBase p = 4 * lane + c.width.bytes * i := by omega
  unfold WinConfig.byteOffset WinConfig.counterIndex
  rw [hsub, Nat.add_mul_mod_self_left, Nat.mod_eq_of_lt hlane, Nat.add_mul_div_left _ _ (by omega),
    Nat.div_eq_of_lt hlane, Nat.zero_add]
  exact ⟨rfl, rfl⟩

/-- A counter's bytes lie in its plane's range. -/
theorem WinConfig.lane_in_plane {p : Plane} {a i lane : Nat} (ha : a = c.planeBase p + c.width.bytes * i + 4 * lane)
    (hi : i < c.count) (hlane : 4 * lane < c.width.bytes) : c.planeBase p ≤ a ∧ a < c.planeBase p + c.span := by
  have hle : c.width.bytes * (i + 1) ≤ c.span := by
    rw [WinConfig.span, Nat.mul_comm c.count]
    exact Nat.mul_le_mul_left _ hi
  rw [Nat.mul_succ] at hle
  omega

theorem requestOperand_eq (r : Request) :
    requestOperand r = if r.kind = .read then 0 else r.data.toNat % 2 ^ (8 * r.size.bytes) := by
  unfold requestOperand
  cases r.kind <;> rfl

theorem planeOperation_write_take : planeOperation .take .write = none := rfl

theorem planeOperation_read_take {k : ReqKind} {o : OpKind} (h : planeOperation .take k = some o) : o = .take := by
  cases k <;> cases h
  rfl

end Sys2Proof.Machine

open Sys2Proof Sys2Proof.Machine

/-- Settles O11: a legal place is found by its plane (`WinConfig.planeOf_eq`), and each illegal family fails a condition
of R6 (`legalForm_iff`). -/
theorem accessFormDecodes : Obligations.AccessFormDecodes := by
  refine ⟨fun w c p k i lane r hi hdisj hk ha hbase hsize hdvd hfit henab hwhole => ?_, fun w c r hbad => ?_⟩
  · have hfour := ReqSize.four_le_bytes r.size
    have hlane : 4 * lane < c.width.bytes := by omega
    obtain ⟨hoff, hidx⟩ := WinConfig.offset_and_index ha hlane
    have hlegal : legalForm c p k r = true := by
      have hsw := ReqSize.bytes_dvd_width (z := r.size) (l := c.width) (by omega)
      refine legalForm_iff.mpr ⟨hsize, Nat.mod_eq_zero_of_dvd ?_, by rwa [hoff], ?_, fun h => ?_⟩
      · rw [ha]
        exact Nat.dvd_add (Nat.dvd_add (hsw.trans hbase) (hsw.mul_right i)) hdvd
      · cases hr : r.kind with
        | read => exact .inl rfl
        | write =>
          refine .inr (decide_eq_true ?_)
          rw [henab hr]
          exact Nat.mod_eq_of_lt (Nat.sub_lt (Nat.two_pow_pos _) Nat.one_pos)
      · have heq := hwhole h
        rw [hoff]
        omega
    rw [decodeCounter_of_legal (WinConfig.planeOf_eq hdisj (WinConfig.lane_in_plane ha hi hlane)) hk hlegal, hoff, hidx,
      requestOperand_eq, Nat.mul_div_cancel_left lane (by decide)]
  · by_contra hne
    obtain ⟨p, k, hp, hk, hl⟩ := decodeCounter_ne_none hne
    obtain ⟨hsize, haligned, hfit, henab, hwhole⟩ := legalForm_iff.mp hl
    rcases hbad with h | h | h | ⟨hw, h⟩ | ⟨hw, h⟩ | ⟨hlt, ⟨hw, h⟩ | h⟩
    · omega
    · exact h (Nat.dvd_of_mod_eq_zero haligned)
    · omega
    · rcases henab with hr | he
      · rw [hw] at hr
        cases hr
      · exact h (of_decide_eq_true he)
    · cases hp.symm.trans h
      rw [hw, planeOperation_write_take] at hk
      cases hk
    · cases hp.symm.trans h
      rw [hw] at hk
      cases hk
      have := (hwhole (.inl rfl)).1
      omega
    · cases hp.symm.trans h
      have := (hwhole (.inr (planeOperation_read_take hk))).1
      omega

end

section
/-!
SUPPORT. The class of a request by its bytes (R24), and the taking of the head request by its class (R42 to R45).
-/

namespace Sys2Proof.Machine

variable {s t : State} {r : Request} {w : WinNo}

/-! ### Ranges and matching (R24) -/

theorem Range.holds_iff {g : Range} {x : Nat} : g.holds x = true ↔ g.lo ≤ x ∧ x < g.hi := by
  simp [Range.holds]

/-- Two ranges overlap exactly where they share a byte address (R30). -/
theorem Range.overlaps_iff {g h : Range} : g.overlaps h = true ↔ g.shares h := by
  simp only [Range.overlaps, Range.shares, decide_eq_true_eq]
  constructor
  · intro hlt
    exact ⟨max g.lo h.lo, by omega⟩
  · rintro ⟨x, hx⟩
    omega

/-- A window matches with ranges of its configuration alone. -/
theorem Window.matching_subset {x : Window} {g : Range} (h : g ∈ x.matching) :
    ∃ c, x.config = some c ∧ g ∈ c.ranges := by
  unfold Window.matching at h
  split at h
  · cases h
  · rename_i c hc
    refine ⟨c, hc, ?_⟩
    simp only [List.mem_append, List.mem_ite_nil_right, List.mem_singleton] at h
    rcases h with ⟨-, rfl⟩ | ⟨-, rfl⟩ <;> simp [WinConfig.ranges]

theorem Window.matching_of_config {x : Window} {c : WinConfig} (h : x.config = some c) :
    x.matching = (if x.state.storageMatches then [c.storageRange] else []) ++
      (if x.state.aliasMatches then [c.aliasRange] else []) := by
  simp only [Window.matching, h]

/-- The first byte of the request lies in a matching range of window `w`. -/
def State.firstIn (s : State) (r : Request) (w : WinNo) : Prop :=
  ∃ g ∈ (s.window w).matching, g.lo ≤ r.addr.toNat ∧ r.addr.toNat < g.hi

/-- Some byte of the request lies in a matching range. -/
def State.touches (s : State) (r : Request) : Prop :=
  ∃ w, ∃ g ∈ (s.window w).matching, g.shares (requestRange r)

theorem State.windowOf_some (h : windowOf s.windows r = some w) : s.firstIn r w := by
  have hany := List.find?_some h
  simp only [List.any_eq_true, Range.holds_iff] at hany
  exact hany

theorem State.windowOf_none (h : windowOf s.windows r = none) (w : WinNo) : ¬ s.firstIn r w := by
  rintro ⟨g, hg, hx⟩
  have hnone := List.find?_eq_none.mp h w (List.mem_finRange w)
  exact hnone (List.any_eq_true.mpr ⟨g, hg, Range.holds_iff.mpr hx⟩)

theorem State.touches_of_firstIn (h : s.firstIn r w) : s.touches r := by
  obtain ⟨g, hg, hlo, hhi⟩ := h
  have hfour := ReqSize.four_le_bytes r.size
  exact ⟨w, g, hg, r.addr.toNat, hlo, hhi, le_rfl, by simp only [requestRange]; omega⟩

theorem State.any_overlaps_iff :
    (s.windows.toList.any fun x => x.matching.any fun g => g.overlaps (requestRange r)) = true ↔ s.touches r := by
  simp only [List.any_eq_true, Vector.mem_toList_iff, Range.overlaps_iff, Vector.mem_iff_getElem, State.touches,
    State.window]
  constructor
  · rintro ⟨_, ⟨n, hn, rfl⟩, g, hg, hs⟩
    exact ⟨⟨n, hn⟩, g, hg, hs⟩
  · rintro ⟨w, g, hg, hs⟩
    exact ⟨_, ⟨w.val, w.isLt, rfl⟩, g, hg, hs⟩

/-- The class of a request, in words (R24). -/
theorem State.classify_cases (s : State) (r : Request) :
    (∃ w, classify s.windows r = .window w ∧ s.firstIn r w) ∨
      (classify s.windows r = .straddling ∧ (∀ w, ¬ s.firstIn r w) ∧ s.touches r) ∨
      (classify s.windows r = .outside ∧ ¬ s.touches r) := by
  unfold classify
  split
  · rename_i w hw
    exact .inl ⟨w, rfl, State.windowOf_some hw⟩
  · rename_i hnone
    split
    · rename_i h
      exact .inr (.inl ⟨rfl, State.windowOf_none hnone, State.any_overlaps_iff.mp h⟩)
    · rename_i h
      exact .inr (.inr ⟨rfl, fun ht => h (State.any_overlaps_iff.mpr ht)⟩)

/-- No byte lies in matching ranges of two windows (R30). -/
theorem State.firstIn_unique {v : WinNo} (hd : s.windowsDisjoint) (hv : s.firstIn r v) (hw : s.firstIn r w) : v = w := by
  obtain ⟨g, hg, hgx⟩ := hv
  obtain ⟨h, hh, hhx⟩ := hw
  obtain ⟨c, hc, hgc⟩ := Window.matching_subset hg
  obtain ⟨d, hd', hhd⟩ := Window.matching_subset hh
  by_contra hne
  exact hd.2.2 v w c d hne hc hd' g hgc h hhd ⟨r.addr.toNat, hgx.1, hgx.2, hhx.1, hhx.2⟩

/-! ### Records of a request just taken (R49) -/

/-- The record of request `r`, with the number that its ID's list gives next. -/
def State.newRecord (s : State) (r : Request) (lane : Nat) (answer : Option Answer) : Record :=
  { key := (s.list r.id).nextKey, kind := r.kind, size := r.size.bytes, lane := lane, source := none, answer := answer }

/-- The list of request `r`'s ID, with its record at the tail. -/
def State.withRecord (s : State) (r : Request) (lane : Nat) (answer : Option Answer) : State :=
  s.setList r.id
    { records := (s.list r.id).records ++ [s.newRecord r lane answer], nextKey := (s.list r.id).nextKey + 1 }

theorem State.appendRecord_eq (s : State) (r : Request) (lane : Nat) : s.appendRecord r lane = s.withRecord r lane none :=
  rfl

/-- An answer to the record just appended changes no other record. -/
theorem answerRecords_newRecord (hk : s.keysFresh) (r : Request) (lane : Nat) (how : Record → Answer) :
    answerRecords (fun x => decide (x.key = (s.list r.id).nextKey)) how
        ((s.list r.id).records ++ [s.newRecord r lane none]) =
      (s.list r.id).records ++ [s.newRecord r lane (some (how (s.newRecord r lane none)))] := by
  unfold answerRecords
  rw [List.map_append]
  have hold : ∀ x ∈ (s.list r.id).records,
      (if decide (x.key = (s.list r.id).nextKey) && x.answer.isNone then { x with answer := some (how x) } else x) = x :=
    fun x hx => by rw [decide_eq_false (hk r.id x hx).ne, Bool.false_and, if_neg Bool.false_ne_true]
  rw [List.map_congr_left hold, List.map_id']
  simp [State.newRecord]

theorem State.answerDone_withRecord (hk : s.keysFresh) (r : Request) (lane : Nat) (data : List Byte) :
    (s.withRecord r lane none).answerDone r.id (s.list r.id).nextKey data =
      s.withRecord r lane (some { status := .done, data := data }) := by
  simp only [State.withRecord, State.answerDone, State.list_setList_same, answerRecords_newRecord hk]
  simp only [State.setList, Vector.set_set]

theorem State.answerFailure_withRecord (hk : s.keysFresh) (r : Request) (lane : Nat) (st : UpStatus) :
    (s.withRecord r lane none).answerFailure r.id (s.list r.id).nextKey st =
      s.withRecord r lane
        (some { status := st, data := if r.kind = .read then bytesLE r.size.bytes 0 else [] }) := by
  have hfail : (s.newRecord r lane none).failure st =
      { status := st, data := if r.kind = .read then bytesLE r.size.bytes 0 else [] } := by
    simp only [Record.failure, State.newRecord]
    cases r.kind <;> rfl
  rw [← hfail]
  simp only [State.withRecord, State.answerFailure, State.list_setList_same, answerRecords_newRecord hk]
  simp only [State.setList, Vector.set_set]

/-! ### Taking the head request (R42 to R45) -/

theorem State.mayTake_iff : s.mayTake r = true ↔
    (s.list r.id).records.length < 8 ∧ s.hold = none ∧ s.softRunning = false ∧ s.rstAsserted = false := by
  show _ ↔ (s.list r.id).records.length < Config.listDepth ∧ _
  simp only [State.mayTake, Bool.and_eq_true, decide_eq_true_eq, Bool.not_eq_true', Option.isNone_iff_eq_none, and_assoc]

theorem State.takeHead_not_may {rest : List Request} (hc : s.channel = r :: rest) (hm : s.mayTake r = false) :
    s.takeHead = none ∧ s.passClaim = none := by
  simp [State.takeHead, State.passClaim, hc, hm]

theorem State.takeHead_outside {rest : List Request} (hc : s.channel = r :: rest) (hm : s.mayTake r = true)
    (hk : classify s.windows r = .outside) : s.takeHead = none ∧ s.passClaim = some r := by
  simp [State.takeHead, State.passClaim, hc, hm, hk]

/-- A head request of another class is no PASS claim (R43). -/
theorem State.passClaim_not_outside {rest : List Request} (hc : s.channel = r :: rest)
    (hk : classify s.windows r ≠ .outside) : s.passClaim = none := by
  simp [State.passClaim, hc, hk]

theorem State.takeHead_straddling {rest : List Request} (hc : s.channel = r :: rest) (hf : s.keysFresh)
    (hm : s.mayTake r = true) (hk : classify s.windows r = .straddling) :
    s.takeHead = some { s.withRecord r 0
      (some { status := .refused, data := if r.kind = .read then bytesLE r.size.bytes 0 else [] }) with
        channel := rest } := by
  simp only [State.takeHead, hc, hm, hk, if_true, Option.some.injEq]
  exact State.answerFailure_withRecord (s := { s with channel := rest }) hf r 0 .refused

theorem State.takeHead_window {rest : List Request} (hc : s.channel = r :: rest) (hm : s.mayTake r = true)
    (hk : classify s.windows r = .window w) :
    s.takeHead = some (({ s with channel := rest } : State).takeCounter w r) := by
  simp only [State.takeHead, hc, hm, hk, if_true]

theorem State.takeHead_illegal {rest : List Request} (hc : s.channel = r :: rest) (hf : s.keysFresh)
    (hm : s.mayTake r = true) (hk : classify s.windows r = .window w) (hd : decodeCounter w (s.config w) r = none) :
    s.takeHead = some { s.withRecord r 0
      (some { status := .refused, data := if r.kind = .read then bytesLE r.size.bytes 0 else [] }) with
        channel := rest } := by
  have hd' : decodeCounter w (({ s with channel := rest } : State).config w) r = none := hd
  rw [State.takeHead_window hc hm hk, Option.some.injEq, State.takeCounter]
  simp only [hd']
  exact State.answerFailure_withRecord (s := { s with channel := rest }) hf r 0 .refused

/-- A legal counter request gets its record and is treated, which answers or accepts it (R45). -/
theorem State.takeCounter_settles {d : CounterOp} (hd : decodeCounter w (s.config w) r = some d)
    (ht : (s.withRecord r d.op.lane none).treat d r.id (s.list r.id).nextKey = .settled t) : s.takeCounter w r = t := by
  simp only [State.takeCounter, hd, State.appendRecord_eq, ht]

/-- A legal counter request that waits is parked in the hold slot with its record and the reason (R46). -/
theorem State.takeCounter_parks {d : CounterOp} {why : HoldReason} (hd : decodeCounter w (s.config w) r = some d)
    (ht : (s.withRecord r d.op.lane none).treat d r.id (s.list r.id).nextKey = .waits why) :
    s.takeCounter w r = { s.withRecord r d.op.lane none with
      hold := some { request := r, decoded := d, link := (s.list r.id).nextKey, reason := why } } := by
  simp only [State.takeCounter, hd, State.appendRecord_eq, ht]

theorem State.takeHead_settles {rest : List Request} {d : CounterOp} (hc : s.channel = r :: rest)
    (hm : s.mayTake r = true) (hk : classify s.windows r = .window w) (hd : decodeCounter w (s.config w) r = some d)
    (ht : (({ s with channel := rest } : State).withRecord r d.op.lane none).treat d r.id (s.list r.id).nextKey =
      .settled t) : s.takeHead = some t := by
  rw [State.takeHead_window hc hm hk, State.takeCounter_settles (s := { s with channel := rest }) hd ht]

theorem State.takeHead_parks {rest : List Request} {d : CounterOp} {why : HoldReason} (hc : s.channel = r :: rest)
    (hm : s.mayTake r = true) (hk : classify s.windows r = .window w) (hd : decodeCounter w (s.config w) r = some d)
    (ht : (({ s with channel := rest } : State).withRecord r d.op.lane none).treat d r.id (s.list r.id).nextKey =
      .waits why) :
    s.takeHead = some { ({ s with channel := rest } : State).withRecord r d.op.lane none with
      hold := some { request := r, decoded := d, link := (s.list r.id).nextKey, reason := why } } := by
  rw [State.takeHead_window hc hm hk, State.takeCounter_parks (s := { s with channel := rest }) hd ht]
  rfl

end Sys2Proof.Machine
end

section
/-!
SUPPORT. What the ingress unit holds, and which operations leave it: the response order lists and the hold slot
(`State.upstream`), and with them the channel, the windows and the engine (`State.ingress`).
-/

namespace Sys2Proof.Machine

variable {s t : State}

/-- The response order lists and the hold slot. -/
def State.upstream (s : State) :=
  (s.lists, s.hold)

@[simp] theorem State.raise_upstream (s : State) (w : WinNo) (i : Nat) (ks : List AlertKind) :
    (s.raise w i ks).upstream = s.upstream :=
  foldl_keeps State.upstream (fun t k => t.raiseOne w i k) (fun _ _ => rfl) ks s

@[simp] theorem State.setEntry_upstream (s : State) (e : EntryNo) (o : Option Entry) :
    (s.setEntry e o).upstream = s.upstream := rfl

@[simp] theorem State.slotCaptured_upstream (s : State) (k : SlotNo) (v : Nat) :
    (s.slotCaptured k v).upstream = s.upstream := by
  unfold State.slotCaptured
  split <;> rfl

@[simp] theorem State.markUpdate_upstream (s : State) (e : EntryNo) : (s.markUpdate e).upstream = s.upstream := by
  unfold State.markUpdate
  repeat' split
  all_goals rfl

@[simp] theorem State.useClean_upstream (s : State) (e : EntryNo) : (s.useClean e).upstream = s.upstream := by
  unfold State.useClean
  repeat' split
  all_goals rfl

@[simp] theorem State.mapEntry_upstream (s : State) (e : EntryNo) (f : Entry → Entry) :
    (s.mapEntry e f).upstream = s.upstream := by
  unfold State.mapEntry
  split <;> rfl

@[simp] theorem State.captureNow_upstream (s : State) (e : EntryNo) (k : SlotNo) :
    (s.captureNow e k).upstream = s.upstream := by
  unfold State.captureNow
  split
  · rfl
  · split
    · rfl
    · dsimp only
      split <;> simp

@[simp] theorem State.appendWaiters_upstream (s : State) (e : EntryNo) (ws : List Waiter) (u m : Bool) :
    (s.appendWaiters e ws u m).upstream = s.upstream := by
  unfold State.appendWaiters
  repeat' split
  all_goals rfl

theorem State.obtain_upstream {e : EntryNo} (h : s.obtain = some (e, t)) : t.upstream = s.upstream := by
  rcases State.obtain_cases h with ⟨-, rfl⟩ | ⟨-, rest, -, rfl⟩ <;> rfl

@[simp] theorem State.requestCapture_upstream (s : State) (w : WinNo) (i : Nat) (k : SlotNo) :
    (s.requestCapture w i k).upstream = s.upstream := by
  unfold State.requestCapture
  split
  · split
    · rfl
    · rename_i ho
      have hu := State.obtain_upstream ho
      exact hu
  · split
    · rfl
    · split <;> simp

@[simp] theorem State.completionCheck_upstream (s : State) : s.completionCheck.upstream = s.upstream := by
  unfold State.completionCheck
  repeat' split
  all_goals rfl

@[simp] theorem State.walkStep_upstream (s : State) : s.walkStep.upstream = s.upstream := by
  rcases s.walkStep_cases with h | ⟨p, h | h | ⟨w, i, k, h⟩⟩ <;> rw [h]
  · rfl
  · exact State.completionCheck_upstream _
  · exact State.requestCapture_upstream _ w i k

@[simp] theorem State.startFlush_upstream (s : State) (e : EntryNo) : (s.startFlush e).upstream = s.upstream := by
  rcases s.startFlush_cases e with h | ⟨x, b, -, -, h⟩ <;> rw [h]
  rfl

@[simp] theorem State.startFlushes_upstream (s : State) (es : List EntryNo) :
    (s.startFlushes es).upstream = s.upstream :=
  foldl_keeps State.upstream _ (fun a e => State.startFlush_upstream a e) es s

@[simp] theorem State.freeEntries_upstream (s : State) (es : List EntryNo) :
    (s.freeEntries es).upstream = s.upstream :=
  foldl_keeps State.upstream State.freeEntry (fun _ _ => rfl) es s

@[simp] theorem State.pressureAct_upstream (s : State) : s.pressureAct.upstream = s.upstream := by
  unfold State.pressureAct
  split
  · rfl
  · simp

@[simp] theorem State.ageCheck_upstream (s : State) : s.ageCheck.upstream = s.upstream := by
  unfold State.ageCheck
  split <;> simp

/-! ### A posted operation answers no record in the table (R19, R50) -/

theorem State.applyNow_upstream {o : Operation} (ho : o.kind.isPosted = true) (s : State) (e : EntryNo) (id : UpId)
    (link : Nat) : (s.applyNow e o id link).upstream = s.upstream := by
  unfold State.applyNow
  split
  · rfl
  · split
    · rfl
    · simp only [ho, if_true]
      split <;> simp

theorem State.carryOut_upstream {o : Operation} (ho : o.kind.isPosted = true) (s : State) (w : WinNo) (i : Nat)
    (id : UpId) (link : Nat) (cap : Option SlotNo) : (s.carryOut w i o id link cap).upstream = s.upstream := by
  unfold State.carryOut
  dsimp only
  split
  · split
    · rfl
    · rename_i hob
      have hu := State.obtain_upstream hob
      split <;> exact hu
  · split
    · rfl
    · split
      case h_1 | h_2 => split <;> simp [State.foldAdd]
      case h_3 | h_4 => split <;> simp [State.applyNow_upstream ho]
      all_goals rfl

theorem State.accept_upstream {o : Operation} (ho : o.kind.isPosted = true) (s : State) (w : WinNo) (i : Nat) (id : UpId)
    (link : Nat) : (s.accept w i o id link).upstream = s.upstream := by
  unfold State.accept
  split
  · split
    · exact State.carryOut_upstream ho ..
    · rfl
  · exact State.carryOut_upstream ho ..

@[simp] theorem State.latchAtAcceptance_upstream (s : State) (w : WinNo) (i : Nat) (o : Operation) (id : UpId)
    (link : Nat) : (s.latchAtAcceptance w i o id link).upstream = s.upstream := by
  unfold State.latchAtAcceptance
  repeat' split
  all_goals rfl

/-! ### The ingress unit at the end of a happening -/

/-- The lists, the hold slot, the channel, the windows, RST_N and the engine. -/
def State.ingress (s : State) :=
  (s.lists, s.hold, s.channel, s.windows, s.rstAsserted, s.engine)

theorem State.ingress_eq (hu : t.upstream = s.upstream) (hf : t.fixed = s.fixed) : t.ingress = s.ingress := by
  simp only [State.fixed, State.upstream, Prod.mk.injEq] at hf hu
  simp only [State.ingress, Prod.mk.injEq]
  tauto

theorem holdDue_of_empty {b : State} (h : b.hold = none) (a : State) : holdDue a b = false := by
  simp only [holdDue, h]

/-- With an empty hold slot the retries, pressure and the age check leave the ingress unit. -/
theorem rounds_upstream {b : State} (n : Nat) (a : State) (h : b.hold = none) :
    (rounds n a b).upstream = b.upstream := by
  induction n generalizing a b with
  | zero => rfl
  | succ n ih =>
    have hr : (retries a b).upstream = b.upstream := by
      simp only [retries, holdDue_of_empty h, Bool.false_eq_true, if_false]
      split <;> simp
    have hup : ∀ d : State, d.upstream = b.upstream → d.hold = none := fun d hd =>
      (congrArg (fun q => q.2) hd : d.hold = b.hold).trans h
    unfold rounds
    dsimp only
    generalize hd : (if (headLeft a b || headLeft b (retries a b) ||
        headLeft (retries a b) (retries a b).pressureAct) = true then
      (retries a b).pressureAct.ageCheck else (retries a b).pressureAct) = d
    have hdu : d.upstream = b.upstream := by
      rw [← hd]
      split <;> simp [hr]
    split
    · exact (ih b (hup d hdu)).trans hdu
    · exact hdu

theorem State.drainChecks_of_none_draining (h : ∀ w, (s.window w).state ≠ .draining) : s.drainChecks = s := by
  have hw : ∀ w, s.drainCheck w = s := fun w => by
    unfold State.drainCheck
    rw [if_neg fun hd => h w hd.1]
  unfold State.drainChecks
  induction List.finRange 16 with
  | nil => rfl
  | cons w ws ih => rw [List.foldl_cons, hw, ih]

theorem State.clearCheck_of_not_soft (h : s.softRunning = false) : s.clearCheck = s := by
  unfold State.clearCheck
  rw [if_neg]
  rintro ⟨he, -⟩
  simp [State.softRunning, he] at h

theorem State.finishCheck_of_not_soft (h : s.softRunning = false) : s.finishCheck = s := by
  unfold State.finishCheck
  rw [if_neg]
  rintro ⟨he, -⟩
  simp [State.softRunning, he] at h

@[simp] theorem State.chooseResponse_ingress (s : State) : s.chooseResponse.ingress = s.ingress := by
  unfold State.chooseResponse
  repeat' split
  all_goals rfl

@[simp] theorem State.flushAllCheck_ingress (s : State) : s.flushAllCheck.ingress = s.ingress := by
  unfold State.flushAllCheck
  split <;> rfl

/-- What an ingress unit is at rest: no request held, no window draining, no soft reset running. -/
def State.calm (s : State) : Prop :=
  s.hold = none ∧ (∀ w, (s.window w).state ≠ .draining) ∧ s.softRunning = false

theorem State.calm_of_ingress (h : t.ingress = s.ingress) (hs : s.calm) : t.calm := by
  simp only [State.ingress, Prod.mk.injEq] at h
  obtain ⟨-, hhold, -, hwin, -, heng⟩ := h
  simp only [State.calm, State.window, State.softRunning, hhold, hwin, heng]
  exact hs

/-- The end of a happening leaves an ingress unit at rest as it is. -/
theorem settle_ingress {b : State} (a : State) (hb : b.calm) : (settle a b).ingress = b.ingress := by
  have hr : (rounds roundLimit a b).ingress = b.ingress := State.ingress_eq (rounds_upstream _ a hb.1) (rounds_fixed _ a b)
  have hcalm := State.calm_of_ingress hr hb
  have ho : (orderFlushes a (rounds roundLimit a b).flushAllCheck).ingress = b.ingress :=
    (State.flushAllCheck_ingress _).trans hr
  have hsoft := (State.calm_of_ingress ho hb).2.2
  simp only [settle, State.chooseResponse_ingress, State.drainChecks_of_none_draining hcalm.2.1]
  rw [State.clearCheck_of_not_soft hsoft, State.finishCheck_of_not_soft hsoft]
  exact ho

/-! ### Grants -/

/-- The claimant chosen has an eligible claim (R117, R118). -/
theorem State.chosen_eligible {c : Claimant} (h : s.chosen = some c) : s.eligible c = true := by
  unfold State.chosen at h
  split at h
  · split at h
    · rename_i hd
      cases h
      simp only [State.secondGrantDue, Bool.and_eq_true] at hd
      exact hd.2
    · exact List.find?_some h
  · cases h

theorem State.issueRequest_ingress (s : State) (o : Owner) (q : DownRequest) :
    (s.issueRequest o q).ingress = s.ingress := rfl

theorem State.writeGranted_ingress (s : State) (e : EntryNo) : (s.writeGranted e).ingress = s.ingress :=
  State.ingress_eq (State.mapEntry_upstream ..) (State.mapEntry_fixed ..)

theorem State.grantTable_ingress (s : State) (g : Tag) : (s.grantTable g).ingress = s.ingress := by
  unfold State.grantTable
  split
  · rfl
  · split
    · rfl
    · dsimp only
      split
      · rfl
      · exact (State.issueRequest_ingress _ _ _).trans (State.writeGranted_ingress _ _)
      all_goals rfl

theorem State.grantSnap_ingress (s : State) (g : Tag) : (s.grantSnap g).ingress = s.ingress := by
  unfold State.grantSnap
  split
  · split <;> rfl
  · rfl

/-- Without a PASS claim a grant leaves the ingress unit. -/
theorem State.grant_ingress (h : s.passClaim = none) : s.grant.ingress = s.ingress := by
  rcases s.grant_cases with hg | ⟨c, g, hc, -, hg⟩
  · rw [hg]
  · rw [hg]
    have hel := State.chosen_eligible hc
    cases c with
    | pass => simp [State.eligible, State.claims, h] at hel
    | table => exact State.grantTable_ingress _ g
    | snap => exact State.grantSnap_ingress _ g

end Sys2Proof.Machine
end

section
/-!
SUPPORT. What offers, the counts and the retries see of the table and of the snapshot engine: two states that look alike to
them answer an offer alike, and no retry is due between them.
-/

namespace Sys2Proof.Machine

variable {s t u a b : State} {e : EntryNo}

/-- What an offer, the counts and the retries see of an entry. -/
def seenEntry : Option Entry → Option (WinNo × Nat × List Waiter × Bool × Nat) :=
  Option.map fun x => (x.window, x.index, x.waiters, x.captureRequested, entryStateCode x.body)

/-- Two states that look alike to offers, counts and retries. -/
structure State.SeenAlike (s t : State) : Prop where
  entries : t.entries.map seenEntry = s.entries.map seenEntry
  clean : t.clean = s.clean
  dirty : t.dirty = s.dirty
  lowMark : t.lowMark = s.lowMark
  snapState : t.snap.state = s.snap.state
  job : t.snap.job = s.snap.job
  exceptions : t.snap.exceptions = s.snap.exceptions
  flushAllRunning : t.flushAllRunning = s.flushAllRunning
  slots : ∀ k, t.slot k = .free ↔ s.slot k = .free

theorem State.SeenAlike.of_eq (he : t.entries = s.entries) (hc : t.clean = s.clean) (hd : t.dirty = s.dirty)
    (hl : t.lowMark = s.lowMark) (hs : t.snap = s.snap) (hf : t.flushAllRunning = s.flushAllRunning) :
    s.SeenAlike t where
  entries := by rw [he]
  clean := hc
  dirty := hd
  lowMark := hl
  snapState := by rw [hs]
  job := by rw [hs]
  exceptions := by rw [hs]
  flushAllRunning := hf
  slots k := by simp only [State.slot, hs]

theorem State.SeenAlike.trans (h : s.SeenAlike t) (k : t.SeenAlike u) : s.SeenAlike u where
  entries := k.entries.trans h.entries
  clean := k.clean.trans h.clean
  dirty := k.dirty.trans h.dirty
  lowMark := k.lowMark.trans h.lowMark
  snapState := k.snapState.trans h.snapState
  job := k.job.trans h.job
  exceptions := k.exceptions.trans h.exceptions
  flushAllRunning := k.flushAllRunning.trans h.flushAllRunning
  slots j := (k.slots j).trans (h.slots j)

theorem State.SeenAlike.entry (h : s.SeenAlike t) (e : EntryNo) : seenEntry (t.entry e) = seenEntry (s.entry e) := by
  have hget := congrArg (fun v : Vector _ 256 => v[e]) h.entries
  simpa only [State.entry, Fin.getElem_fin, Vector.getElem_map] using hget

/-- The entries seen, as a list. -/
theorem State.SeenAlike.toList (h : s.SeenAlike t) :
    t.entries.toList.map seenEntry = s.entries.toList.map seenEntry := by
  rw [← Vector.toList_map, ← Vector.toList_map, h.entries]

theorem seenEntry_isNone (o : Option Entry) : (seenEntry o).isNone = o.isNone := by
  cases o <;> rfl

theorem State.SeenAlike.isNone_entry (h : s.SeenAlike t) (e : EntryNo) :
    (t.entry e).isNone = (s.entry e).isNone := by
  rw [← seenEntry_isNone, h.entry, seenEntry_isNone]

theorem State.SeenAlike.lookup (h : s.SeenAlike t) (w : WinNo) (i : Nat) : t.lookup w i = s.lookup w i := by
  unfold State.lookup
  congr 1
  funext e
  have he := h.entry e
  cases hs : s.entry e <;> cases ht : t.entry e <;> simp_all [seenEntry]

theorem State.SeenAlike.lowestFree (h : s.SeenAlike t) : t.lowestFree = s.lowestFree := by
  unfold State.lowestFree
  congr 1
  funext e
  exact h.isNone_entry e

theorem State.SeenAlike.canObtain (h : s.SeenAlike t) : t.canObtain = s.canObtain := by
  simp only [State.canObtain, h.lowestFree, h.clean]

theorem State.SeenAlike.freeCount (h : s.SeenAlike t) : t.freeCount = s.freeCount := by
  have hcount : ∀ l : List (Option Entry), l.countP Option.isNone = (l.map seenEntry).countP Option.isNone := fun l => by
    rw [List.countP_map]
    exact List.countP_congr fun o _ => by simp [seenEntry_isNone]
  simp only [State.freeCount, hcount, h.toList]

theorem State.SeenAlike.freeWaiters (h : s.SeenAlike t) : t.freeWaiters = s.freeWaiters := by
  have hwait : ∀ l : List (Option Entry),
      l.map waitersOf = (l.map seenEntry).map fun p => (p.map fun q => q.2.2.1.length).getD 0 := fun l => by
    rw [List.map_map]
    exact List.map_congr_left fun o _ => by cases o <;> rfl
  simp only [State.freeWaiters, hwait, h.toList]

theorem State.SeenAlike.pressure (h : s.SeenAlike t) : t.pressure = s.pressure := by
  simp only [State.pressure, h.freeCount, h.clean, h.lowMark]

theorem State.SeenAlike.counterEntry (h : s.SeenAlike t) (w : WinNo) (i : Nat) :
    seenEntry (t.counterEntry w i) = seenEntry (s.counterEntry w i) := by
  unfold State.counterEntry
  rw [h.lookup]
  split
  · exact h.entry _
  · rfl

theorem State.SeenAlike.captureMarked (h : s.SeenAlike t) (w : WinNo) (i : Nat) :
    t.captureMarked w i = s.captureMarked w i := by
  have hmark : ∀ v : State, v.captureMarked w i =
      ((seenEntry (v.counterEntry w i)).map fun q => q.2.2.2.1).getD false := fun v => by
    unfold State.captureMarked State.counterEntry
    cases v.lookup w i with
    | none => rfl
    | some e =>
      dsimp only
      cases v.entry e <;> rfl
  rw [hmark, hmark, h.counterEntry]

theorem State.SeenAlike.earlyCapture (h : s.SeenAlike t) (w : WinNo) (i : Nat) (k : OpKind) :
    t.earlyCapture w i k = s.earlyCapture w i k := by
  simp only [State.earlyCapture, h.captureMarked, State.engineWantsCapture, h.snapState, h.job, h.exceptions]

theorem State.SeenAlike.earlySlot (h : s.SeenAlike t) : t.earlySlot = s.earlySlot := by
  simp only [State.earlySlot, h.slots]

/-- The table of R66, by the code of the entry's state (10.6). -/
theorem waiterNeed_by_code (x : Entry) (k : OpKind) (cap : Bool) :
    waiterNeed (some x) k cap =
      if entryStateCode x.body = 1 then (if cap then 2 else if k.isAdd then 0 else 1)
      else if entryStateCode x.body = 2 then (if cap then 2 else if k.isAdd && decide (x.waiters = []) then 0 else 1)
      else if entryStateCode x.body = 5 then Config.waiterRecords + 1
      else 0 := by
  cases hb : x.body <;> simp [waiterNeed, hb, entryStateCode]

theorem Body.isFetch_by_code (b : Body) : b.isFetch = decide (entryStateCode b = 2) := by
  cases b <;> rfl

/-- Entries that are seen alike have the same waiters and state code. -/
theorem seenEntry_some {x y : Entry} (h : seenEntry (some x) = seenEntry (some y)) :
    x.waiters = y.waiters ∧ entryStateCode x.body = entryStateCode y.body := by
  simp only [seenEntry, Option.map_some, Option.some.injEq, Prod.mk.injEq] at h
  exact ⟨h.2.2.1, h.2.2.2.2⟩

theorem waiterNeed_congr {x y : Option Entry} (h : seenEntry x = seenEntry y) (k : OpKind) (cap : Bool) :
    waiterNeed x k cap = waiterNeed y k cap := by
  match x, y with
  | none, none => rfl
  | none, some _ | some _, none => cases h
  | some x, some y =>
    obtain ⟨hw, hcode⟩ := seenEntry_some h
    rw [waiterNeed_by_code, waiterNeed_by_code, hw, hcode]

theorem State.SeenAlike.offerLack (h : s.SeenAlike t) (w : WinNo) (i : Nat) (k : OpKind) :
    t.offerLack w i k = s.offerLack w i k := by
  simp only [State.offerLack, h.earlyCapture, h.lookup, h.canObtain, h.exceptions, h.earlySlot, h.freeWaiters,
    waiterNeed_congr (h.counterEntry w i)]

theorem State.SeenAlike.counterInFetch (h : s.SeenAlike t) (w : WinNo) (i : Nat) :
    t.counterInFetch w i = s.counterInFetch w i := by
  have hc := h.counterEntry w i
  unfold State.counterInFetch
  match t.counterEntry w i, s.counterEntry w i, hc with
  | none, none, _ => rfl
  | some x, some y, hc => simp only [Body.isFetch_by_code, (seenEntry_some hc).2]

/-- Between states that look alike the walk's request is not due (R133). -/
theorem State.SeenAlike.walkDue (h : a.SeenAlike b) : walkDue a b = false := by
  have hfreed : entryFreed a b = false := by
    simp only [entryFreed, h.isNone_entry, List.any_eq_false]
    intro e _
    cases a.entry e <;> simp
  have hjoined : joinedClean a b = false := by
    simp [joinedClean, h.clean]
  have hreturned : waiterReturned a b = false := by
    simp [waiterReturned, h.freeWaiters]
  have hleft : ∀ w i, leftFetch a b w i = false := fun w i => by
    simp [leftFetch, h.counterInFetch]
  unfold Machine.walkDue
  split <;> simp only [hfreed, hjoined, hreturned, hleft, Bool.or_self]

theorem State.SeenAlike.headLeft (h : a.SeenAlike b) : headLeft a b = false := by
  unfold Machine.headLeft
  split
  · rfl
  · rename_i e es hd
    simp [h.dirty, hd]

/-- The end of a happening that changes nothing seen, with no pressure and no FLUSH ALL, orders flushes and lets the
response arbiter choose. -/
theorem settle_of_seenAlike (h : a.SeenAlike b) (hb : b.calm) (hp : b.pressure = false)
    (hf : b.flushAllRunning = false) : settle a b = (orderFlushes a b).chooseResponse := by
  have hround : rounds roundLimit a b = b := by
    have hact : b.pressureAct = b := by
      simp [State.pressureAct, hp]
    simp [roundLimit, rounds, retries, holdDue_of_empty hb.1, h.walkDue, hact, h.headLeft]
  have hall : b.flushAllCheck = b := by
    simp [State.flushAllCheck, hf]
  have hsoft : (orderFlushes a b).softRunning = false := hb.2.2
  simp only [settle, hround, State.drainChecks_of_none_draining hb.2.1, hall, State.clearCheck_of_not_soft hsoft,
    State.finishCheck_of_not_soft hsoft]

theorem State.chooseResponse_seenAlike (s : State) : s.SeenAlike s.chooseResponse := by
  unfold State.chooseResponse
  repeat' split
  all_goals exact State.SeenAlike.of_eq rfl rfl rfl rfl rfl rfl

/-! ### Grants look alike -/

theorem State.writeGranted_seenAlike (s : State) (e : EntryNo) : s.SeenAlike (s.writeGranted e) := by
  unfold State.writeGranted State.mapEntry
  split
  · rename_i x hx
    refine ⟨?_, rfl, rfl, rfl, rfl, rfl, rfl, rfl, fun _ => Iff.rfl⟩
    refine Vector.ext fun j hj => ?_
    simp only [State.setEntry, Vector.getElem_map, Vector.getElem_set]
    split
    · rename_i hej
      subst hej
      rw [show s.entries[e.val] = some x from hx]
      cases hb : x.body <;> simp [seenEntry, hb, entryStateCode]
    · rfl
  · exact State.SeenAlike.of_eq rfl rfl rfl rfl rfl rfl

theorem State.issueRequest_seenAlike (s : State) (o : Owner) (q : DownRequest) : s.SeenAlike (s.issueRequest o q) :=
  State.SeenAlike.of_eq rfl rfl rfl rfl rfl rfl

theorem State.grantTable_seenAlike (s : State) (g : Tag) : s.SeenAlike (s.grantTable g) := by
  have hself : s.SeenAlike s := State.SeenAlike.of_eq rfl rfl rfl rfl rfl rfl
  unfold State.grantTable
  split
  · exact hself
  · rename_i e rest _
    split
    · exact hself
    · dsimp only
      split
      · exact State.SeenAlike.of_eq rfl rfl rfl rfl rfl rfl
      · have hqueue : s.SeenAlike { s with issue := rest } := State.SeenAlike.of_eq rfl rfl rfl rfl rfl rfl
        exact (hqueue.trans (State.writeGranted_seenAlike _ e)).trans (State.issueRequest_seenAlike _ _ _)
      all_goals exact hself

theorem State.grantSnap_seenAlike (s : State) (g : Tag) : s.SeenAlike (s.grantSnap g) := by
  have hself : s.SeenAlike s := State.SeenAlike.of_eq rfl rfl rfl rfl rfl rfl
  unfold State.grantSnap
  split
  · split
    · rename_i k rest b _ _ _ j v hk
      refine ⟨rfl, rfl, rfl, rfl, rfl, rfl, rfl, rfl, fun i => ?_⟩
      have hslot := State.slot_setSlot s k i (.writing j v g)
      refine (Eq.congr_left hslot).trans ?_
      split
      · rename_i hki
        simp [← hki, hk]
      · exact Iff.rfl
    all_goals exact hself
  · exact hself

/-- A grant without a PASS claim changes nothing seen. -/
theorem State.grant_seenAlike (h : s.passClaim = none) : s.SeenAlike s.grant := by
  rcases s.grant_cases with hg | ⟨c, g, hc, -, hg⟩
  · rw [hg]
    exact State.SeenAlike.of_eq rfl rfl rfl rfl rfl rfl
  · rw [hg]
    have hel := State.chosen_eligible hc
    cases c with
    | pass => simp [State.eligible, State.claims, h] at hel
    | table =>
      refine State.SeenAlike.trans ?_ (State.grantTable_seenAlike _ g)
      exact State.SeenAlike.of_eq rfl rfl rfl rfl rfl rfl
    | snap =>
      refine State.SeenAlike.trans ?_ (State.grantSnap_seenAlike _ g)
      exact State.SeenAlike.of_eq rfl rfl rfl rfl rfl rfl

end Sys2Proof.Machine
end

section
/-!
SUPPORT. A request that waits alone at the head of the channel, and may be taken, is taken by the end of a happening: at
once, or behind the one grant that falls first (R42, R118).
-/

namespace Sys2Proof.Machine

variable {s t u a b : State} {r : Request}

/-! ### A grant occupies the downstream channel (R118, R120) -/

/-- An admissible tag is to be had: some tag is free (R116). -/
theorem State.lowestTag_of_eligible {c : Claimant} (h : s.eligible c = true) : ∃ g, s.lowestTag = some g := by
  simp only [State.eligible, State.admissible, Bool.and_eq_true, decide_eq_true_eq] at h
  have hpos : 0 < s.tags.toList.countP Option.isNone := by
    have hle := h.2
    unfold State.freeTags at hle
    omega
  obtain ⟨o, ho, hnone⟩ := List.countP_pos_iff.mp hpos
  obtain ⟨n, hn, rfl⟩ := Vector.mem_iff_getElem.mp (Vector.mem_toList_iff.mp ho)
  refine Option.ne_none_iff_exists'.mp fun hl => ?_
  exact List.find?_eq_none.mp hl ⟨n, hn⟩ (List.mem_finRange _) hnone

theorem State.grantPass_presents (h : s.passClaim ≠ none) (g : Tag) : (s.grantPass g).downReq ≠ none := by
  unfold State.passClaim at h
  unfold State.grantPass
  split
  · rename_i hc
    simp [hc] at h
  · exact Option.some_ne_none _

theorem State.grantTable_presents (h : s.tableClaim ≠ none) (g : Tag) : (s.grantTable g).downReq ≠ none := by
  unfold State.tableClaim at h
  unfold State.grantTable
  split
  · rename_i hi
    simp [hi] at h
  · rename_i e rest hi
    split
    · rename_i he
      simp [hi, he] at h
    · rename_i x he
      simp only [hi, he] at h
      dsimp only
      cases hb : x.body with
      | fetch d m q | write v r => exact Option.some_ne_none _
      | _ => simp [hb] at h

theorem State.grantSnap_presents (h : s.snapClaim ≠ none) (g : Tag) : (s.grantSnap g).downReq ≠ none := by
  unfold State.snapClaim at h
  unfold State.grantSnap
  cases hw : s.snap.writeOrder with
  | nil => simp [hw] at h
  | cons k rest =>
    cases hj : s.snap.job with
    | none => simp [hw, hj] at h
    | some b =>
      simp only [hw, hj] at h
      dsimp only
      cases hk : s.slot k with
      | captured j v => exact Option.some_ne_none _
      | _ => simp [hk] at h

/-- Where a choice is made, the grant presents a request downstream. -/
theorem State.grant_presents (h : s.chosen ≠ none) : s.grant.downReq ≠ none := by
  obtain ⟨c, hc⟩ := Option.ne_none_iff_exists'.mp h
  have hel := State.chosen_eligible hc
  obtain ⟨g, hg⟩ := State.lowestTag_of_eligible hel
  simp only [State.eligible, Bool.and_eq_true] at hel
  unfold State.grant
  simp only [hc, hg]
  cases c with
  | pass =>
    have hclaim := Option.isSome_iff_ne_none.mp hel.1
    exact State.grantPass_presents (s := { s with arbPtr := .pass, secondGrant := _ }) hclaim g
  | table =>
    have hclaim := Option.isSome_iff_ne_none.mp hel.1
    exact State.grantTable_presents (s := { s with arbPtr := .table, secondGrant := _ }) hclaim g
  | snap =>
    have hclaim := Option.isSome_iff_ne_none.mp hel.1
    exact State.grantSnap_presents (s := { s with arbPtr := .snap, secondGrant := _ }) hclaim g

theorem settle_downReq (a b : State) : (settle a b).downReq = b.downReq := by
  have h := settle_outer a b
  simp only [State.outer, Prod.mk.injEq] at h
  obtain ⟨-, -, -, -, -, -, -, -, -, -, -, hdown, -⟩ := h
  exact hdown

/-! ### The takings and the grant that fall at once -/

/-- The state with the uses of the free values counted otherwise. -/
def State.recount (s : State) (n : Nat) : State :=
  { s with choice := n }

/-- Where the head request may be taken, it is taken next, or a grant falls first. -/
theorem State.nextHappening_of_taking (h : ∀ n, (s.recount n).takeHead ≠ none) :
    ∃ u n, s.nextHappening = some u ∧
      ((s.recount n).takeHead = some u ∨ s.chosen ≠ none ∧ u = (s.recount n).grant) := by
  obtain ⟨t, ht⟩ := Option.ne_none_iff_exists'.mp (h s.choice)
  have hs : s.takeHead = some t := ht
  unfold State.nextHappening
  cases hc : s.chosen with
  | none => exact ⟨t, s.choice, by simp only [hs], .inl ht⟩
  | some c =>
    simp only [hs]
    obtain ⟨v, hv⟩ := Option.ne_none_iff_exists'.mp (h (s.choice + 1))
    split
    · exact ⟨_, s.choice + 1, rfl, .inr ⟨Option.some_ne_none c, rfl⟩⟩
    · exact ⟨v, s.choice + 1, hv, .inl hv⟩

/-- A waiting that stands through a grant ends in a taking: within two of the happenings that fall at once, the second
where the free value of assumption 21 lets a grant come first. -/
theorem follow_takes {W T : State → Prop} (hmay : ∀ s n, W s → (s.recount n).takeHead ≠ none)
    (htake : ∀ s n t, W s → (s.recount n).takeHead = some t → T (settle s t))
    (hgrant : ∀ s n, W s → W (settle s (s.recount n).grant))
    (hrest : ∀ s t, T s → s.nextHappening = some t → T (settle s t)) (h : W s) : T (follow 2 s) := by
  obtain ⟨u, n, hu, hcase⟩ := State.nextHappening_of_taking fun n => hmay s n h
  have hfirst : follow 2 s = follow 1 (settle s u) := by simp only [follow, hu]
  rw [hfirst]
  rcases hcase with ht | ⟨hc, rfl⟩
  · exact follow_induct hrest 1 _ (htake s n u h ht)
  · have hw := hgrant s n h
    have hbusy : (settle s (s.recount n).grant).chosen = none := State.chosen_busy (by
      rw [settle_downReq]
      exact State.grant_presents (s := s.recount n) hc)
    obtain ⟨v, m, hv, ht | ⟨hc', -⟩⟩ := State.nextHappening_of_taking fun m => hmay _ m hw
    · have hsecond : follow 1 (settle s (s.recount n).grant) = settle (settle s (s.recount n).grant) v := by
        simp only [follow, hv]
      rw [hsecond]
      exact htake _ m v hw ht
    · exact absurd hbusy hc'

/-! ### A request alone on the channel -/

theorem State.keysFresh_of_ingress (h : t.ingress = s.ingress) (hs : s.keysFresh) : t.keysFresh := by
  simp only [State.ingress, Prod.mk.injEq] at h
  simpa only [State.keysFresh, State.list, h.1] using hs

theorem State.mayTake_of_ingress (h : t.ingress = s.ingress) : t.mayTake r = s.mayTake r := by
  simp only [State.ingress, Prod.mk.injEq] at h
  obtain ⟨hlists, hhold, -, -, hrst, heng⟩ := h
  have hlist : t.list r.id = s.list r.id := by simp only [State.list, hlists]
  have hsoft : t.softRunning = s.softRunning := by simp only [State.softRunning, heng]
  unfold State.mayTake
  rw [hlist, hhold, hsoft, hrst]

theorem State.channel_of_ingress (h : t.ingress = s.ingress) : t.channel = s.channel :=
  congrArg (fun q => q.2.2.1) h

theorem State.windows_of_ingress (h : t.ingress = s.ingress) : t.windows = s.windows :=
  congrArg (fun q => q.2.2.2.1) h

theorem State.lists_of_ingress (h : t.ingress = s.ingress) : t.lists = s.lists :=
  congrArg (fun q => q.1) h

/-- A request taken with its record leaves the same ingress unit, whatever the other blocks hold. -/
theorem State.withRecord_ingress (h : t.ingress = s.ingress) (r : Request) (lane : Nat) (answer : Option Answer)
    (rest : List Request) :
    ({ t.withRecord r lane answer with channel := rest } : State).ingress =
      ({ s.withRecord r lane answer with channel := rest } : State).ingress := by
  simp only [State.ingress, Prod.mk.injEq] at h
  obtain ⟨hlists, hhold, -, hwin, hrst, heng⟩ := h
  simp only [State.ingress, State.withRecord, State.setList, State.newRecord, State.list, hlists, hhold, hwin, hrst, heng]

theorem State.answerDone_ingress (h : t.ingress = s.ingress) (id : UpId) (key : Nat) (data : List Byte) :
    (t.answerDone id key data).ingress = (s.answerDone id key data).ingress := by
  simp only [State.ingress, Prod.mk.injEq] at h
  obtain ⟨hlists, hhold, hchan, hwin, hrst, heng⟩ := h
  simp only [State.ingress, State.answerDone, State.setList, State.list, hlists, hhold, hchan, hwin, hrst, heng]

/-- With nothing on the channel, what falls at once leaves an ingress unit at rest as it is. -/
theorem State.nextHappening_ingress (hs : s.calm) (hc : s.channel = []) (h : s.nextHappening = some t) :
    (settle s t).ingress = s.ingress := by
  have hempty : ∀ n, (s.recount n).takeHead = none ∧ (s.recount n).passClaim = none := fun n =>
    ⟨by simp [State.takeHead, State.recount, hc], by simp [State.passClaim, State.recount, hc]⟩
  have hgrant : ∀ n, (settle s (s.recount n).grant).ingress = s.ingress := fun n => by
    have hg : (s.recount n).grant.ingress = s.ingress := State.grant_ingress (hempty n).2
    exact (settle_ingress s (State.calm_of_ingress hg hs)).trans hg
  rcases State.nextHappening_cases h with ⟨ht, -⟩ | ⟨-, -, rfl⟩ | ⟨-, ht | rfl⟩
  · cases ((hempty s.choice).1 : s.takeHead = none).symm.trans ht
  · exact hgrant s.choice
  · cases (hempty (s.choice + 1)).1.symm.trans ht
  · exact hgrant (s.choice + 1)

/-- A request presented alone to an ingress unit at rest: where each taking of it leaves the ingress unit as in `goal`, the
end of the happening does. `W` is what the other blocks keep until then. -/
theorem finish_presented {W : State → Prop} {goal : State} (hcalm : s.calm) (hchan : s.channel = [])
    (hgoal : goal.calm ∧ goal.channel = []) (hk : classify s.windows r ≠ .outside)
    (hW : W (settle s { s with channel := [r] }))
    (hgrant : ∀ u n, u.ingress = ({ s with channel := [r] } : State).ingress → W u → W (settle u (u.recount n).grant))
    (htake : ∀ u, u.ingress = ({ s with channel := [r] } : State).ingress → W u →
      ∃ t, u.takeHead = some t ∧ t.ingress = goal.ingress)
    (hcount : ∀ u n, W u → W (u.recount n)) :
    ∃ t, exec (.requestTaken r) s = .next t ∧ t.ingress = goal.ingress := by
  have hfirst : (settle s { s with channel := [r] }).ingress = ({ s with channel := [r] } : State).ingress :=
    settle_ingress s hcalm
  have hkeep : ∀ u n, u.ingress = ({ s with channel := [r] } : State).ingress →
      (settle u (u.recount n).grant).ingress = ({ s with channel := [r] } : State).ingress := fun u n hu => by
    have hpass : (u.recount n).passClaim = none :=
      State.passClaim_not_outside (rest := []) (State.channel_of_ingress hu) (by
        show classify u.windows r ≠ .outside
        rw [State.windows_of_ingress hu]
        exact hk)
    have hg : (u.recount n).grant.ingress = ({ s with channel := [r] } : State).ingress :=
      (State.grant_ingress hpass).trans hu
    exact (settle_ingress u (State.calm_of_ingress hg hcalm)).trans hg
  have hfuel : finish s { s with channel := [r] } = follow 2 (settle s { s with channel := [r] }) := by
    rw [finish_eq, State.channel_of_ingress hfirst]
    rfl
  refine ⟨finish s { s with channel := s.channel ++ [r] }, rfl, ?_⟩
  rw [hchan, List.nil_append, hfuel]
  refine follow_takes (W := fun u => u.ingress = ({ s with channel := [r] } : State).ingress ∧ W u)
    (T := fun u => u.ingress = goal.ingress) (fun u n hu => ?_) (fun u n t hu ht => ?_) (fun u n hu => ?_)
    (fun u t hu ht => ?_) ⟨hfirst, hW⟩
  · obtain ⟨t, ht, -⟩ := htake (u.recount n) hu.1 (hcount u n hu.2)
    rw [ht]
    exact Option.some_ne_none t
  · obtain ⟨t', ht', hi⟩ := htake (u.recount n) hu.1 (hcount u n hu.2)
    cases ht'.symm.trans ht
    exact (settle_ingress u (State.calm_of_ingress hi hgoal.1)).trans hi
  · exact ⟨hkeep u n hu.1, hgrant u n hu.1 hu.2⟩
  · exact (State.nextHappening_ingress (State.calm_of_ingress hu hgoal.1)
      ((State.channel_of_ingress hu).trans hgoal.2) ht).trans hu

/-! ### A posted operation that lacks nothing (R19, R44, R45) -/

/-- The wide-read latch serves no posted operation (R56). -/
theorem State.latchServe_of_posted {o : Operation} (ho : o.kind.isPosted = true) (s : State) (w : WinNo) (i : Nat)
    (id : UpId) (link : Nat) : s.latchServe w i o id link = none := by
  unfold State.latchServe
  rw [if_neg]
  rintro ⟨hk, -⟩
  rw [hk] at ho
  cases ho

/-- On an ACTIVE window it is accepted and answered DONE, and the ingress unit changes by its record's answer alone. -/
theorem State.treat_posted {d : CounterOp} (ho : d.op.kind.isPosted = true)
    (ha : (s.window d.window).state = .active) (hl : s.offerLack d.window d.index d.op.kind = none) (id : UpId)
    (link : Nat) : ∃ u, s.treat d id link = .settled u ∧ u.ingress = (s.answerDone id link []).ingress := by
  refine ⟨((s.latchAtAcceptance d.window d.index d.op id link).accept d.window d.index d.op id link).answerDone id link [],
    ?_, State.answerDone_ingress ?_ id link []⟩
  · simp only [State.treat, ha, State.offer, State.latchServe_of_posted ho, hl, ho, if_true]
  · refine State.ingress_eq ?_ ?_
    · rw [State.accept_upstream ho, State.latchAtAcceptance_upstream]
    · rw [State.accept_fixed, State.latchAtAcceptance_fixed]

theorem decodeCounter_window {w : WinNo} {c : WinConfig} {d : CounterOp} (h : decodeCounter w c r = some d) :
    d.window = w := by
  unfold decodeCounter at h
  repeat' split at h
  all_goals (cases h; try rfl)

/-! ### The clauses of O9 -/

/-- The matching ranges by the window's state (R24). -/
theorem matchingRanges_by_state (x : Window) : (x.config = none → x.matching = []) ∧
    ∀ c, x.config = some c →
      (x.state = .empty ∨ x.state = .loaded → x.matching = []) ∧
      (x.state = .quiesced → x.matching = [c.aliasRange]) ∧
      (x.state = .arming ∨ x.state = .active ∨ x.state = .draining ∨ (∃ q, x.state = .fault q) →
        x.matching = [c.storageRange, c.aliasRange]) := by
  refine ⟨fun h => by simp only [Window.matching, h], fun c hc => ?_⟩
  rw [Window.matching_of_config hc]
  refine ⟨?_, ?_, ?_⟩
  · rintro (h | h) <;> rw [h] <;> rfl
  · intro h
    rw [h]
    rfl
  · rintro (h | h | h | ⟨q, h⟩) <;> rw [h] <;> rfl

/-- The class of a request, by its first byte and by any of its bytes (R24, R30). -/
theorem classify_in_words (s : State) (r : Request) :
    (s.windowsDisjoint → ∀ w, classify s.windows r = .window w ↔ s.firstIn r w) ∧
      (classify s.windows r = .straddling ↔ (∀ w, ¬ s.firstIn r w) ∧ s.touches r) ∧
      (classify s.windows r = .outside ↔ ¬ s.touches r) := by
  rcases s.classify_cases r with ⟨w, hk, hw⟩ | ⟨hk, hnone, ht⟩ | ⟨hk, ht⟩
  · have ht := State.touches_of_firstIn hw
    rw [hk]
    refine ⟨fun hd v => ⟨fun h => by cases h; exact hw, fun hv => by rw [State.firstIn_unique hd hw hv]⟩, ?_, ?_⟩
    · exact iff_of_false (by simp) fun h => h.1 w hw
    · exact iff_of_false (by simp) fun h => h ht
  · rw [hk]
    exact ⟨fun _ v => iff_of_false (by simp) (hnone v), iff_of_true rfl ⟨hnone, ht⟩,
      iff_of_false (by simp) fun h => h ht⟩
  · rw [hk]
    exact ⟨fun _ v => iff_of_false (by simp) fun hv => ht (State.touches_of_firstIn hv),
      iff_of_false (by simp) fun h => ht h.2, iff_of_true rfl ht⟩

/-- A straddling request, and one that fails the form check, is refused in the command that presents it (R8, R44). -/
theorem requestTaken_refused {s : State} {r : Request} (hchan : s.channel = []) (hfresh : s.keysFresh)
    (hmay : s.mayTake r = true) (hcalm : s.calm)
    (hbad : classify s.windows r = .straddling ∨
      ∃ w, classify s.windows r = .window w ∧ decodeCounter w (s.config w) r = none) :
    ∃ t, exec (.requestTaken r) s = .next t ∧ t.ingress = ({ s.withRecord r 0
      (some { status := .refused, data := if r.kind = .read then bytesLE r.size.bytes 0 else [] }) with
        channel := [] } : State).ingress := by
  refine finish_presented (W := fun _ => True) hcalm hchan ⟨hcalm, rfl⟩ ?_ trivial (fun _ _ _ _ => trivial)
    (fun u hu _ => ?_) (fun _ _ _ => trivial)
  · rcases hbad with h | ⟨w, h, -⟩ <;> simp [h]
  · have hwin : u.windows = s.windows := State.windows_of_ingress (s := { s with channel := [r] }) hu
    have hm : u.mayTake r = true := (State.mayTake_of_ingress hu).trans hmay
    have hf : u.keysFresh := State.keysFresh_of_ingress hu hfresh
    refine ⟨_, ?_, State.withRecord_ingress hu r 0 _ []⟩
    rcases hbad with h | ⟨w, h, hd⟩
    · exact State.takeHead_straddling (State.channel_of_ingress hu) hf hm (by rw [hwin]; exact h)
    · exact State.takeHead_illegal (State.channel_of_ingress hu) hf hm (by rw [hwin]; exact h)
        (by rw [State.config_of_windows hwin]; exact hd)

/-- A posted operation that lacks nothing is answered DONE in the command that presents it (R19, R44, R45). -/
theorem requestTaken_posted {s : State} {r : Request} {w : WinNo} {d : CounterOp} (hchan : s.channel = [])
    (hfresh : s.keysFresh) (hmay : s.mayTake r = true) (hcalm : s.calm) (hk : classify s.windows r = .window w)
    (ha : (s.window w).state = .active) (hd : decodeCounter w (s.config w) r = some d)
    (ho : d.op.kind.isPosted = true) (hl : s.offerLack w d.index d.op.kind = none) (hp : s.pressure = false)
    (hf : s.flushAllRunning = false) :
    ∃ t, exec (.requestTaken r) s = .next t ∧ t.ingress = ({ s.withRecord r d.op.lane
      (some { status := .done, data := [] }) with channel := [] } : State).ingress := by
  have hsettle : ∀ a b : State, a.SeenAlike b → s.SeenAlike b → b.calm → s.SeenAlike (settle a b) :=
    fun a b hab hsb hb => by
      rw [settle_of_seenAlike hab hb (hsb.pressure.trans hp) (hsb.flushAllRunning.trans hf)]
      have horder : b.SeenAlike (orderFlushes a b) := State.SeenAlike.of_eq rfl rfl rfl rfl rfl rfl
      exact (hsb.trans horder).trans (State.chooseResponse_seenAlike _)
  have hqueue : s.SeenAlike { s with channel := [r] } := State.SeenAlike.of_eq rfl rfl rfl rfl rfl rfl
  have hrecount : ∀ (u : State) n, u.SeenAlike (u.recount n) := fun u n =>
    State.SeenAlike.of_eq rfl rfl rfl rfl rfl rfl
  refine finish_presented (W := s.SeenAlike) hcalm hchan ⟨hcalm, rfl⟩ (by simp [hk]) (hsettle _ _ hqueue hqueue hcalm)
    (fun u n hu hs => ?_) (fun u hu hs => ?_) (fun u n hs => hs.trans (hrecount u n))
  · have hpass : (u.recount n).passClaim = none :=
      State.passClaim_not_outside (rest := []) (State.channel_of_ingress hu) (by
        show classify u.windows r ≠ .outside
        rw [State.windows_of_ingress hu]
        simp [hk])
    have hgrant := (hrecount u n).trans (State.grant_seenAlike hpass)
    exact hsettle _ _ hgrant (hs.trans hgrant)
      (State.calm_of_ingress ((State.grant_ingress hpass).trans hu) hcalm)
  · have hwin : u.windows = s.windows := State.windows_of_ingress (s := { s with channel := [r] }) hu
    have hm : u.mayTake r = true := (State.mayTake_of_ingress hu).trans hmay
    have hfr : u.keysFresh := State.keysFresh_of_ingress hu hfresh
    have htake := fun v => State.takeHead_settles (t := v) (State.channel_of_ingress hu) hm (by rw [hwin]; exact hk)
      (by rw [State.config_of_windows hwin]; exact hd)
    obtain rfl := decodeCounter_window hd
    have hlack := (hs.offerLack d.window d.index d.op.kind).trans hl
    have hact : (u.window d.window).state = .active := by
      simpa only [State.window, hwin] using ha
    obtain ⟨v, hv, hvi⟩ := State.treat_posted (s := ({ u with channel := [] } : State).withRecord r d.op.lane none) ho
      hact hlack r.id (u.list r.id).nextKey
    refine ⟨v, htake v hv, hvi.trans ?_⟩
    have hdone := State.answerDone_withRecord (s := { u with channel := [] }) hfr r d.op.lane []
    exact (congrArg State.ingress hdone).trans (State.withRecord_ingress hu r d.op.lane _ [])

end Sys2Proof.Machine

open Sys2Proof Sys2Proof.Machine

/-- Settles O9: the ranges (`matchingRanges_by_state`), the class (`classify_in_words`), the taking of the head by its
class, and the requests answered in one command (`requestTaken_refused`, `requestTaken_posted`). -/
theorem requestTakenByClass : Obligations.RequestTakenByClass := by
  refine ⟨matchingRanges_by_state, classify_in_words, fun _ _ => rfl, fun s r rest hc hf => ?_,
    fun s r hchan hf hlen hhold hsoft hrst hdrain => ?_⟩
  · dsimp only
    rw [← State.mayTake_iff]
    refine ⟨fun hm => State.takeHead_not_may hc (by simpa using hm), fun hm => State.takeHead_outside hc hm,
      fun hm => State.takeHead_straddling hc hf hm, fun hm w hk hd => State.takeHead_illegal hc hf hm hk hd,
      fun hm w d hk hd => ?_⟩
    exact ⟨fun u hu => State.takeHead_settles hc hm hk hd hu, fun why hw => State.takeHead_parks hc hm hk hd hw⟩
  · have hmay : s.mayTake r = true := State.mayTake_iff.mpr ⟨hlen, hhold, hsoft, hrst⟩
    have hcalm : s.calm := ⟨hhold, hdrain, hsoft⟩
    have hread : ∀ (t : State) (lane : Nat) (a : Answer),
        t.ingress = ({ s.withRecord r lane (some a) with channel := [] } : State).ingress →
        t.channel = [] ∧ (t.list r.id).records = (s.list r.id).records ++ [s.newRecord r lane (some a)] :=
      fun t lane a ht => ⟨State.channel_of_ingress ht, by
        have hlist : t.list r.id = (s.withRecord r lane (some a)).list r.id := by
          simp only [State.list, State.lists_of_ingress ht]
        rw [hlist, State.withRecord, State.list_setList_same]⟩
    refine ⟨fun hbad => ?_, fun w d hk ha hd ho hl hp hfl => ?_⟩
    · obtain ⟨t, hexec, ht⟩ := requestTaken_refused hchan hf hmay hcalm hbad
      exact ⟨t, hexec, hread t 0 _ ht⟩
    · obtain ⟨t, hexec, ht⟩ := requestTaken_posted hchan hf hmay hcalm hk ha hd ho hl hp hfl
      exact ⟨t, hexec, hread t d.op.lane _ ht⟩

end

section
/-!
SUPPORT. The layout of the window table (R21, R30): which configuration each window has, and which windows are EMPTY. Only
WINDOW LOAD, WINDOW RELEASE and the two resets change it.
-/

namespace Sys2Proof.Machine

variable {s t : State} {w : WinNo}

/-! ### Overlaps in words (R30) -/

theorem Range.shares_symm {g h : Range} (hs : g.shares h) : h.shares g := by
  obtain ⟨x, hgl, hgh, hhl, hhh⟩ := hs
  exact ⟨x, hhl, hhh, hgl, hgh⟩

theorem WinConfig.exists_mem_ranges {c : WinConfig} {p : Range → Prop} :
    (∃ h ∈ c.ranges, p h) ↔ p c.storageRange ∨ p c.aliasRange := by
  simp [WinConfig.ranges]

/-- A window that is not EMPTY overlaps a range where one of its two ranges shares a byte with it. -/
theorem Window.overlapsRange_iff {x : Window} {g : Range} :
    x.overlapsRange g = true ↔ x.state ≠ .empty ∧ ∃ c, x.config = some c ∧ ∃ h ∈ c.ranges, g.shares h := by
  obtain ⟨st, conf⟩ := x
  cases conf with
  | none => cases st <;> simp [Window.overlapsRange]
  | some c => cases st <;> simp [Window.overlapsRange, WinConfig.exists_mem_ranges, Range.overlaps_iff]

theorem State.any_overlapsRange_iff {g : Range} :
    (s.windows.toList.any fun x => x.overlapsRange g) = true ↔
      ∃ v c, (s.window v).state ≠ .empty ∧ (s.window v).config = some c ∧ ∃ h ∈ c.ranges, g.shares h := by
  simp only [List.any_eq_true, Vector.mem_toList_iff, Vector.mem_iff_getElem, Window.overlapsRange_iff]
  constructor
  · rintro ⟨x, ⟨i, hi, rfl⟩, hst, c, hc, hshare⟩
    exact ⟨⟨i, hi⟩, c, hst, hc, hshare⟩
  · rintro ⟨v, c, hst, hc, hshare⟩
    exact ⟨s.window v, ⟨v.val, v.isLt, rfl⟩, hst, c, hc, hshare⟩

theorem SnapState.isBusy_iff {p : SnapState} : p.isBusy = true ↔ p ≠ .idle := by
  cases p <;> simp [SnapState.isBusy]

theorem State.overlapsDestination_iff {g : Range} :
    s.overlapsDestination g = true ↔ ∃ b, s.snap.state ≠ .idle ∧ s.snap.job = some b ∧ g.shares (s.destRegion b) := by
  unfold State.overlapsDestination
  cases s.snap.job <;> simp [SnapState.isBusy_iff, Range.overlaps_iff]

/-- The three overlaps WINDOW LOAD is refused for (R30). -/
theorem State.loadOverlaps_iff {c : WinConfig} :
    s.loadOverlaps c = true ↔
      c.storageRange.shares c.aliasRange ∨
        (∃ g ∈ c.ranges, ∃ v d, (s.window v).state ≠ .empty ∧ (s.window v).config = some d ∧ ∃ h ∈ d.ranges, g.shares h) ∨
        ∃ g ∈ c.ranges, ∃ b, s.snap.state ≠ .idle ∧ s.snap.job = some b ∧ g.shares (s.destRegion b) := by
  unfold State.loadOverlaps
  rw [Bool.or_eq_true, List.any_eq_true, Range.overlaps_iff, ← exists_or]
  simp only [Bool.or_eq_true, State.any_overlapsRange_iff, State.overlapsDestination_iff, and_or_left]
  rfl

/-! ### The layout -/

/-- The configuration of each window, and whether it is EMPTY. -/
def State.layout (s : State) : WinNo → Option WinConfig × Bool :=
  fun w => ((s.window w).config, decide ((s.window w).state = .empty))

theorem State.layout_of_windows (h : t.windows = s.windows) : t.layout = s.layout := by
  unfold State.layout State.window
  rw [h]

theorem State.layout_of_fixed (h : t.fixed = s.fixed) : t.layout = s.layout :=
  State.layout_of_windows (State.windows_of_fixed h)

theorem State.windowsDisjoint_of_layout (h : t.layout = s.layout) (hs : s.windowsDisjoint) : t.windowsDisjoint := by
  have hw : ∀ w, (t.window w).config = (s.window w).config ∧ ((t.window w).state = .empty ↔ (s.window w).state = .empty) :=
    fun w => by simpa [State.layout] using congrFun h w
  simp only [State.windowsDisjoint, (hw _).1, (hw _).2]
  exact hs

/-- A window's change between states other than EMPTY leaves the layout. -/
theorem State.layout_setWinState {x : WinState} (hw : (s.window w).state ≠ .empty) (hx : x ≠ .empty) :
    (s.setWinState w x).layout = s.layout := by
  funext v
  simp only [State.layout, State.window_setWinState]
  split
  · subst_vars
    simp [hw, hx]
  · rfl

theorem State.windowsDisjoint_of_empty (h : ∀ w, s.window w = { state := .empty, config := none }) :
    s.windowsDisjoint := by
  simp [State.windowsDisjoint, h]

/-- An EMPTY window has no range that could meet another's. -/
theorem State.windowsDisjoint_release (hs : s.windowsDisjoint) :
    (s.setWindow w { state := .empty, config := none }).windowsDisjoint := by
  obtain ⟨hconf, hself, hother⟩ := hs
  have hkeep : ∀ {v c}, ((s.setWindow w { state := .empty, config := none }).window v).config = some c →
      (s.window v).config = some c := fun {v c} h => by
    rw [State.window_setWindow] at h
    split at h
    · cases h
    · exact h
  refine ⟨fun v => ?_, fun v c hc => hself v c (hkeep hc), fun u v c d hne hc hd => hother u v c d hne (hkeep hc) (hkeep hd)⟩
  rw [State.window_setWindow]
  split
  · simp
  · exact hconf v

/-- A configuration that passes the overlap check of WINDOW LOAD meets no other (R30). -/
theorem State.windowsDisjoint_load {c : WinConfig} (hs : s.windowsDisjoint) (hno : s.loadOverlaps c = false) :
    (s.setWindow w { state := .loaded, config := some c }).windowsDisjoint := by
  obtain ⟨hconf, hself, hother⟩ := hs
  have hfree : ¬ s.loadOverlaps c = true := by simp [hno]
  rw [State.loadOverlaps_iff, not_or, not_or] at hfree
  obtain ⟨hstorage, hwindows, -⟩ := hfree
  have hmeets : ∀ v d, (s.window v).config = some d → ∀ g ∈ c.ranges, ∀ h ∈ d.ranges, ¬ g.shares h :=
    fun v d hd g hg h hh hshare =>
      hwindows ⟨g, hg, v, d, fun hempty => by simp [(hconf v).mp hempty] at hd, hd, h, hh, hshare⟩
  simp only [State.windowsDisjoint, State.window_setWindow]
  refine ⟨fun v => ?_, fun v d hd => ?_, fun u v d f hne hd hf g hg h hh => ?_⟩
  · split
    · simp
    · exact hconf v
  · split at hd
    · cases hd
      exact hstorage
    · exact hself v d hd
  · split at hd <;> split at hf
    · exact absurd (by subst_vars; rfl) hne
    · cases hd
      exact hmeets v f hf g hg h hh
    · cases hf
      exact fun hshare => hmeets u d hd h hh g hg (Range.shares_symm hshare)
    · exact hother u v d f hne hd hf g hg h hh

/-! ### Operations that leave the layout -/

theorem State.startFlushes_windows (s : State) (es : List EntryNo) : (s.startFlushes es).windows = s.windows :=
  State.windows_of_fixed (s.startFlushes_fixed es)

@[simp] theorem State.armingCheck_layout (s : State) (w : WinNo) : (s.armingCheck w).layout = s.layout := by
  unfold State.armingCheck
  split
  · rename_i h
    exact State.layout_setWinState (by simp [h.1]) (by simp)
  · rfl

@[simp] theorem State.armingChecks_layout (s : State) : s.armingChecks.layout = s.layout :=
  foldl_keeps State.layout _ (fun a w => State.armingCheck_layout a w) _ s

@[simp] theorem State.drainCheck_layout (s : State) (w : WinNo) : (s.drainCheck w).layout = s.layout := by
  unfold State.drainCheck
  split
  · rename_i h
    exact State.layout_setWinState (by simp [h.1]) (by simp)
  · rfl

@[simp] theorem State.drainChecks_layout (s : State) : s.drainChecks.layout = s.layout :=
  foldl_keeps State.layout _ (fun a w => State.drainCheck_layout a w) _ s

@[simp] theorem State.flushAllCheck_layout (s : State) : s.flushAllCheck.layout = s.layout := by
  unfold State.flushAllCheck
  split <;> rfl

@[simp] theorem State.finishCheck_layout (s : State) : s.finishCheck.layout = s.layout := by
  unfold State.finishCheck
  split <;> rfl

@[simp] theorem State.chooseResponse_layout (s : State) : s.chooseResponse.layout = s.layout := by
  unfold State.chooseResponse
  repeat' split
  all_goals rfl

@[simp] theorem State.faultExit_layout (s : State) (w : WinNo) : (s.faultExit w).layout = s.layout := by
  unfold State.faultExit
  split
  · rename_i r h
    have hw : (s.window w).state ≠ .empty := by simp [h]
    split
    · cases r with
      | active => exact State.layout_setWinState hw (by simp)
      | draining => exact (State.layout_of_fixed (State.drainStart_fixed _ w)).trans (State.layout_setWinState hw (by simp))
    · rfl
  all_goals rfl

@[simp] theorem State.enterFault_layout (s : State) (w : WinNo) (i : Nat) : (s.enterFault w i).layout = s.layout := by
  unfold State.enterFault
  split
  case h_1 h | h_2 h =>
    exact (State.layout_of_fixed (State.snapshotFaulted_fixed _ w i)).trans
      (State.layout_setWinState (by simp [h]) (by simp))
  all_goals rfl

@[simp] theorem State.handFault_layout (s : State) (k : FaultKind) (w : WinNo) (i : Nat) :
    (s.handFault k w i).layout = s.layout := by
  unfold State.handFault
  split <;> rfl

@[simp] theorem State.strandingEffects_layout (s : State) (k : FaultKind) (w : WinNo) (i : Nat) :
    (s.strandingEffects k w i).layout = s.layout := by
  simp [State.strandingEffects]

@[simp] theorem State.retrySucceeded_layout (s : State) (x : Entry) : (s.retrySucceeded x).layout = s.layout := by
  unfold State.retrySucceeded
  split
  · simp
  · rfl

@[simp] theorem State.fetched_layout (s : State) (e : EntryNo) (m : Nat) : (s.fetched e m).layout = s.layout := by
  unfold State.fetched
  split
  · rfl
  · split
    · exact State.layout_of_windows ((State.settleFetched_cases ..).1.trans
        (State.windows_of_waiterView (State.runWaiters_waiterView ..)))
    all_goals rfl

@[simp] theorem State.written_layout (s : State) (e : EntryNo) : (s.written e).layout = s.layout := by
  unfold State.written
  split
  · rfl
  · split
    · dsimp only
      repeat' split
      all_goals rfl
    all_goals rfl

@[simp] theorem State.fetchOk_layout (s : State) (e : EntryNo) (m : Nat) : (s.fetchOk e m).layout = s.layout := by
  unfold State.fetchOk
  split <;> simp

@[simp] theorem State.writeOk_layout (s : State) (e : EntryNo) : (s.writeOk e).layout = s.layout := by
  unfold State.writeOk
  split <;> simp

@[simp] theorem State.fetchFailed_layout (s : State) (e : EntryNo) : (s.fetchFailed e).layout = s.layout := by
  unfold State.fetchFailed
  split
  · rfl
  · split
    · rw [State.strandingEffects_layout]
      exact State.layout_of_fixed (State.failWaiters_fixed s _ _)
    all_goals rfl

@[simp] theorem State.writeFailed_layout (s : State) (e : EntryNo) : (s.writeFailed e).layout = s.layout := by
  unfold State.writeFailed
  split
  · rfl
  · split
    · exact State.strandingEffects_layout ..
    all_goals rfl

@[simp] theorem State.destinationFailed_layout (s : State) (k : SlotNo) : (s.destinationFailed k).layout = s.layout := by
  unfold State.destinationFailed
  split
  · rw [State.layout_of_fixed (State.endCheck_fixed _), State.layout_of_fixed (State.failSnapshot_fixed _ _),
      State.handFault_layout]
    rfl
  · rfl

@[simp] theorem State.arrive_layout (s : State) (g : Tag) (ok : Bool) (data : BitVec 512) :
    (s.arrive g ok data).layout = s.layout := by
  have hfree : (s.setTag g none).layout = s.layout := rfl
  obtain ⟨-, h⟩ | ⟨r, -, ⟨id, link, -, h⟩ | ⟨e, -, h⟩ | ⟨k, -, h⟩⟩ := s.arrive_cases g ok data <;> rw [h]
  · unfold State.passCompleted
    dsimp only
    rw [State.armingChecks_layout]
    split <;> rfl
  · unfold State.tableResponse
    repeat' split
    · rfl
    all_goals simp [hfree]
  · unfold State.snapResponse
    repeat' split
    · rfl
    · exact (State.layout_of_fixed (State.destinationWritten_fixed _ k)).trans hfree
    · simp [hfree]

@[simp] theorem State.grant_layout (s : State) : s.grant.layout = s.layout := by
  obtain h | ⟨c, g, -, -, h⟩ := s.grant_cases <;> rw [h]
  dsimp only
  cases c with
  | pass =>
    dsimp only
    unfold State.grantPass
    split <;> rfl
  | table =>
    exact State.layout_of_windows (State.windows_of_ingress (State.grantTable_ingress _ g))
  | snap => exact State.layout_of_windows (State.windows_of_ingress (State.grantSnap_ingress _ g))

theorem State.takeCounter_fixed (s : State) (w : WinNo) (r : Request) : (s.takeCounter w r).fixed = s.fixed := by
  unfold State.takeCounter
  dsimp only
  split
  · rfl
  · split
    · rename_i h
      exact (State.treat_fixed _ h :)
    · rfl

theorem State.takeHead_layout (h : s.takeHead = some t) : t.layout = s.layout := by
  obtain ⟨r, rest, -, -, ⟨-, rfl⟩ | ⟨w, -, rfl⟩⟩ := State.takeHead_cases h
  · rfl
  · exact (State.layout_of_fixed (State.takeCounter_fixed _ w r) :)

theorem State.nextHappening_layout (h : s.nextHappening = some t) : t.layout = s.layout := by
  rcases State.nextHappening_cases h with ⟨ht, -⟩ | ⟨-, -, rfl⟩ | ⟨-, ht | rfl⟩
  · exact State.takeHead_layout ht
  · exact s.grant_layout
  · exact (State.takeHead_layout ht :)
  · exact State.grant_layout _

/-! ### The end of a happening -/

theorem State.softClear_window (s : State) (w : WinNo) : s.softClear.window w = { state := .empty, config := none } :=
  Vector.getElem_replicate _

theorem State.clearCheck_windowsDisjoint (hs : s.windowsDisjoint) : s.clearCheck.windowsDisjoint := by
  unfold State.clearCheck
  split
  · exact State.windowsDisjoint_of_empty s.softClear_window
  · exact hs

theorem settle_windowsDisjoint {a b : State} (hb : b.windowsDisjoint) : (settle a b).windowsDisjoint := by
  have ho : (orderFlushes a (rounds roundLimit a b).drainChecks.flushAllCheck).windowsDisjoint := by
    refine State.windowsDisjoint_of_layout ?_ hb
    rw [State.layout_of_fixed (orderFlushes_fixed _ _), State.flushAllCheck_layout, State.drainChecks_layout]
    exact State.layout_of_fixed (rounds_fixed roundLimit a b)
  refine State.windowsDisjoint_of_layout ?_ (State.clearCheck_windowsDisjoint ho)
  simp [settle]

theorem finish_windowsDisjoint {a b : State} (hb : b.windowsDisjoint) : (finish a b).windowsDisjoint :=
  follow_induct (P := State.windowsDisjoint)
    (fun _ _ hs ht => settle_windowsDisjoint (State.windowsDisjoint_of_layout (State.nextHappening_layout ht) hs)) _ _
    (settle_windowsDisjoint hb)

/-! ### Commands -/

theorem State.endFrame_windowsDisjoint {run : State → Reply} (hs : s.windowsDisjoint)
    (hrun : ∀ u : State, u.windowsDisjoint → (run u).st.windowsDisjoint) (code : Byte) :
    (s.endFrame code run).windowsDisjoint := by
  cases h : s.takesCommand with
  | true =>
    rw [State.endFrame_taken h]
    exact hrun s.counted hs
  | false =>
    rw [State.endFrame_dropped h]
    exact hs

/-- A command whose rule leaves the layout. -/
theorem State.endFrame_windowsDisjoint_of_layout {run : State → Reply} (hs : s.windowsDisjoint)
    (hrun : ∀ u : State, (run u).st.layout = u.layout) (code : Byte) : (s.endFrame code run).windowsDisjoint :=
  State.endFrame_windowsDisjoint hs (fun u hu => State.windowsDisjoint_of_layout (hrun u) hu) code

theorem withWindow_windowsDisjoint {run : WinNo → Reply} (hs : s.windowsDisjoint)
    (hrun : ∀ w, (run w).st.windowsDisjoint) (w : BitVec 8) : (withWindow w s run).st.windowsDisjoint := by
  unfold withWindow
  split
  · exact hrun _
  · exact hs

theorem withWindow_layout {run : WinNo → Reply} (hrun : ∀ w, (run w).st.layout = s.layout) (w : BitVec 8) :
    (withWindow w s run).st.layout = s.layout := by
  unfold withWindow
  split
  · exact hrun _
  · rfl

theorem State.windowLoad_windowsDisjoint (hs : s.windowsDisjoint) (a : LoadArgs) :
    (s.windowLoad a).st.windowsDisjoint := by
  refine withWindow_windowsDisjoint hs (fun w => ?_) a.window
  split
  · exact hs
  · split
    · exact hs
    · split
      · exact hs
      · rename_i hno
        exact State.windowsDisjoint_load hs (by simpa using hno)

theorem State.windowRelease_windowsDisjoint (hs : s.windowsDisjoint) (w : BitVec 8) :
    (s.windowRelease w).st.windowsDisjoint := by
  refine withWindow_windowsDisjoint hs (fun w => ?_) w
  split
  case h_1 | h_2 => exact State.windowsDisjoint_release hs
  all_goals exact hs

theorem State.windowArm_layout (s : State) (w : BitVec 8) : (s.windowArm w).st.layout = s.layout := by
  refine withWindow_layout (fun w => ?_) w
  split
  case h_1 h | h_2 h =>
    exact (State.armingCheck_layout _ w).trans (State.layout_setWinState (by simp [h]) (by simp))
  all_goals rfl

theorem State.windowDrain_layout (s : State) (w : BitVec 8) : (s.windowDrain w).st.layout = s.layout := by
  refine withWindow_layout (fun w => ?_) w
  split
  · rfl
  · rename_i h
    have hactive : (s.window w).state = .active := by simpa using h
    split
    · rfl
    · exact (State.layout_of_fixed (State.drainStart_fixed _ w)).trans
        (State.layout_setWinState (by simp [hactive]) (by simp))

theorem State.snapshotStart_layout (s : State) (a : StartArgs) : (s.snapshotStart a).st.layout = s.layout := by
  refine withWindow_layout (fun w => ?_) a.window
  dsimp only
  repeat' split
  case isFalse.isFalse.isFalse.isFalse => exact State.layout_of_fixed (State.walkStep_fixed _)
  all_goals rfl

theorem State.snapshotAbort_layout (s : State) : s.snapshotAbort.st.layout = s.layout := by
  unfold State.snapshotAbort
  split
  · exact State.layout_of_fixed ((State.endCheck_fixed _).trans (s.leaveRunning_fixed .aborted))
  all_goals rfl

theorem State.reenterAll_windows (s : State) (w : WinNo) : (s.reenterAll w).windows = s.windows := by
  refine foldl_keeps State.windows State.reenter (fun a e => ?_) (s.strandedOf w) s
  unfold State.reenter
  repeat' split
  all_goals rfl

theorem State.retryWindow_layout (s : State) (w : BitVec 8) : (s.retryWindow w).st.layout = s.layout := by
  refine withWindow_layout (fun w => ?_) w
  split
  · exact State.layout_of_windows (s.reenterAll_windows w)
  · rfl

theorem State.discardWindow_layout (s : State) (w : BitVec 8) : (s.discardWindow w).st.layout = s.layout := by
  refine withWindow_layout (fun w => ?_) w
  repeat' split
  case isFalse.isFalse =>
    exact (State.faultExit_layout _ w).trans (State.layout_of_fixed (State.freeEntries_fixed s _))
  all_goals rfl

theorem State.flushAllCommand_layout (s : State) : s.flushAllCommand.st.layout = s.layout := by
  unfold State.flushAllCommand
  split
  · rfl
  · exact State.layout_of_windows (State.startFlushes_windows _ _ :)

theorem State.setPrescaler_layout (s : State) (v : BitVec 32) : (s.setPrescaler v).st.layout = s.layout := by
  unfold State.setPrescaler
  repeat' split
  all_goals rfl

theorem State.entryReadReply_layout (s : State) (r : EntryRef) : (s.entryReadReply r).st.layout = s.layout := by
  cases r with
  | byNumber e => rfl
  | byCounter w i => exact withWindow_layout (fun w => by split <;> rfl) w

theorem State.softResetFrame_layout (s : State) : s.softResetFrame.layout = s.layout := by
  unfold State.softResetFrame State.softBegin
  dsimp only
  repeat' split
  all_goals rfl

theorem State.tickOnce_layout (s : State) : s.tickOnce.layout = s.layout := by
  unfold State.tickOnce
  dsimp only
  split
  · rfl
  · exact State.layout_of_windows (State.startFlushes_windows _ _ :)

theorem State.busyFrame_layout (s : State) : s.busyFrame.layout = s.layout := by
  unfold State.busyFrame
  repeat' split
  all_goals rfl

/-- Every command keeps the windows disjoint. -/
theorem exec_windowsDisjoint (c : Instr) (hs : s.windowsDisjoint) : ∃ t, exec c s = .next t ∧ t.windowsDisjoint := by
  have hend : ∀ u : State, u.layout = s.layout → (finish s u).windowsDisjoint :=
    fun u hu => finish_windowsDisjoint (State.windowsDisjoint_of_layout hu hs)
  have hframe : ∀ code run, (∀ u : State, (run u).st.layout = u.layout) → (s.endFrame code run).windowsDisjoint :=
    fun code run hrun => State.endFrame_windowsDisjoint_of_layout hs hrun code
  cases c <;> refine ⟨_, rfl, ?_⟩
  case hardReset => exact State.windowsDisjoint_of_empty fun w => Vector.getElem_replicate _
  case requestTaken | downstreamRequestAccepted | rstNReleased => exact hend _ rfl
  case holdSlotRetry => exact hend _ (State.layout_of_fixed s.retryHold_fixed)
  case responseDelivery => exact hend _ (by unfold State.deliver; split <;> rfl)
  case downstreamGrant => exact hend _ s.grant_layout
  case passThroughCompletion | fetchReturn | writeBackReturn | fetchError | writeBackError | destinationWriteReturn
      | destinationWriteError | tableResponseAbsorbed | snapResponseAbsorbed | orphanResponse =>
    exact hend _ (State.arrive_layout ..)
  case windowBecomesActive w => exact hend _ (s.armingCheck_layout w)
  case windowQuiesce w => exact hend _ (s.drainCheck_layout w)
  case tickAdvance =>
    split
    · exact hs
    · exact hend _ s.tickOnce_layout
  case frameStart => exact State.windowsDisjoint_of_layout (by unfold State.startFrame; split <;> rfl) hs
  case frameWithoutCommand | nop => exact hs
  case frameBusy => exact State.windowsDisjoint_of_layout s.busyFrame_layout hs
  case unassignedCommand | snapshotStatus | faultRead | alertPop | paramGet | mgmtStatus => exact hframe _ _ fun _ => rfl
  case windowLoad a =>
    exact finish_windowsDisjoint
      (State.endFrame_windowsDisjoint hs (fun _ hu => State.windowLoad_windowsDisjoint hu a) codeWindowLoad)
  case windowRelease w =>
    exact finish_windowsDisjoint
      (State.endFrame_windowsDisjoint hs (fun _ hu => State.windowRelease_windowsDisjoint hu w) codeWindowRelease)
  case windowArm w => exact finish_windowsDisjoint (hframe _ _ fun u => u.windowArm_layout w)
  case windowDrain w => exact finish_windowsDisjoint (hframe _ _ fun u => u.windowDrain_layout w)
  case windowStatus w => exact hframe _ _ fun u => withWindow_layout (s := u) (fun _ => rfl) w
  case snapshotStart a => exact finish_windowsDisjoint (hframe _ _ fun u => u.snapshotStart_layout a)
  case snapshotAbort => exact finish_windowsDisjoint (hframe _ _ State.snapshotAbort_layout)
  case snapshotComplete => exact hend _ (State.layout_of_fixed s.completionCheck_fixed)
  case snapshotEnd => exact hend _ (State.layout_of_fixed s.endCheck_fixed)
  case walkRetry => exact hend _ (State.layout_of_fixed s.retryWalk_fixed)
  case retry w => exact finish_windowsDisjoint (hframe _ _ fun u => u.retryWindow_layout w)
  case discard w => exact finish_windowsDisjoint (hframe _ _ fun u => u.discardWindow_layout w)
  case flushAll => exact finish_windowsDisjoint (hframe _ _ State.flushAllCommand_layout)
  case flushAllComplete => exact hend _ s.flushAllCheck_layout
  case paramSetLowMark v => exact finish_windowsDisjoint (hframe _ _ fun u => by unfold State.setLowMark; split <;> rfl)
  case paramSetFlushAge v => exact hframe _ _ fun u => by unfold State.setFlushAge; split <;> rfl
  case paramSetPrescaler v => exact hframe _ _ fun u => u.setPrescaler_layout v
  case paramSetEnables v => exact hframe _ _ fun u => by unfold State.setEnables; split <;> rfl
  case entryRead r => exact hframe _ _ fun u => u.entryReadReply_layout r
  case softReset => exact hend _ s.softResetFrame_layout
  case softResetClearing => exact finish_windowsDisjoint (State.clearCheck_windowsDisjoint hs)
  case softResetEnd => exact hend _ s.finishCheck_layout

theorem State.clockCycle_windowsDisjoint (hs : s.windowsDisjoint) : s.clockCycle.windowsDisjoint := by
  unfold State.clockCycle
  repeat' split
  · exact hs
  · exact hs
  · exact finish_windowsDisjoint (State.windowsDisjoint_of_layout s.tickOnce_layout hs)

end Sys2Proof.Machine

open Sys2Proof Sys2Proof.Machine

/-- Settles O40: every operation leaves the layout of the window table (`State.layout`) but for a load that passes the
overlap check, a release and the two resets. -/
theorem windowsStayDisjoint : Obligations.WindowsStayDisjoint := by
  intro s t hs hstep
  cases hp : s.pending with
  | nil =>
    rw [step_idle hp] at hstep
    cases hstep
    exact State.clockCycle_windowsDisjoint hs
  | cons c rest =>
    have hexec : exec c { s with pending := rest } = .next t := by
      unfold step at hstep
      rwa [hp] at hstep
    obtain ⟨u, hu, hdisj⟩ := exec_windowsDisjoint (s := { s with pending := rest }) c hs
    rw [hexec] at hu
    cases hu
    exact hdisj

end

section
/-!
SUPPORT. The frames that carry a window's number (R28), and the conditions of the window table in words: PASS tags in a
window's ranges (R32), the two counts (R23), the held request (R35) and the snapshot on a window (R34).
-/

namespace Sys2Proof.Machine

variable {s : State} {w : WinNo}

/-! ### Frames with a window's number -/

/-- A frame whose command is taken, by what the owner's rule makes of it. -/
theorem State.endFrame_reply {t : State} {st : Status} {results : List Byte} (h : s.takesCommand = true) (code : Byte)
    (run : State → Reply) (hr : run s.counted = { st := t, status := st, results := results }) :
    s.endFrame code run = t.answered code st results := by
  rw [State.endFrame_taken h, hr]

theorem next_finish_congr {u v : State} (h : u = v) (s : State) :
    (.next (finish s u) : Host.Outcome State Fault Refusal) = .next (finish s v) := by
  rw [h]

/-- A command taken, with the end of its happening. -/
theorem State.next_finish_endFrame {t : State} {st : Status} {results : List Byte} (h : s.takesCommand = true)
    (code : Byte) (run : State → Reply) (hr : run s.counted = { st := t, status := st, results := results }) :
    (.next (finish s (s.endFrame code run)) : Host.Outcome State Fault Refusal) =
      .next (finish s (t.answered code st results)) :=
  next_finish_congr (State.endFrame_reply h code run hr) s

theorem withWindow_of_toNat {b : BitVec 8} (h : b.toNat = w.val) (s : State) (run : WinNo → Reply) :
    withWindow b s run = run w := by
  have hb : b = BitVec.ofNat 8 w.val := by
    rw [← h, BitVec.ofNat_toNat, BitVec.setWidth_eq]
  rw [withWindow, hb, windowArg_ofNat]

theorem withWindow_ofNat (w : WinNo) (s : State) (run : WinNo → Reply) :
    withWindow (BitVec.ofNat 8 w.val) s run = run w := by
  rw [withWindow, windowArg_ofNat]

theorem withWindow_above {b : BitVec 8} (h : 15 < b.toNat) (s : State) (run : WinNo → Reply) :
    withWindow b s run = refuse s .badArgument := by
  have hb : windowArg b = none := dif_neg (by omega)
  rw [withWindow, hb]

/-- A command that names no window is refused, whatever its rule (R28). -/
theorem State.endFrame_above (h : s.takesCommand = true) {b : BitVec 8} (hb : 15 < b.toNat) (code : Byte)
    (run : State → WinNo → Reply) :
    s.endFrame code (fun t => withWindow b t (run t)) = s.counted.answered code .badArgument [] :=
  State.endFrame_reply h code (fun t => withWindow b t (run t)) (withWindow_above hb _ _)

/-! ### Windows -/

@[simp] theorem State.setWinState_setWinState (s : State) (w : WinNo) (x y : WinState) :
    (s.setWinState w x).setWinState w y = s.setWinState w y := by
  simp only [State.setWinState, State.setWindow, State.window, Fin.getElem_fin, Vector.getElem_set_self, Vector.set_set]

/-- The PASS tags that keep a window ARMING (R32). -/
theorem State.passTagIn_iff : s.passTagIn w = true ↔ s.passInRanges w := by
  have hrange : ∀ g : Range, (g.overlaps (s.config w).storageRange || g.overlaps (s.config w).aliasRange) = true ↔
      ∃ h ∈ (s.config w).ranges, g.shares h := fun g => by
    simp only [Bool.or_eq_true, Range.overlaps_iff, WinConfig.exists_mem_ranges]
  simp only [State.passTagIn, State.passInRanges, List.any_eq_true, Vector.mem_toList_iff, Vector.mem_iff_getElem]
  constructor
  · rintro ⟨_, ⟨g, hg, rfl⟩, hhit⟩
    split at hhit
    · rename_i r hr
      split at hhit
      · rename_i id link ho
        exact ⟨⟨g, hg⟩, r, id, link, hr, ho, (hrange _).mp hhit⟩
      all_goals cases hhit
    · cases hhit
  · rintro ⟨g, r, id, link, hr, ho, hhit⟩
    refine ⟨_, ⟨g.val, g.isLt, hr⟩, ?_⟩
    simp only [ho]
    exact (hrange _).mpr hhit

@[simp] theorem State.passTagIn_setWinState (s : State) (w v : WinNo) (x : WinState) :
    (s.setWinState w x).passTagIn v = s.passTagIn v := by
  simp only [State.passTagIn, State.config_setWinState]
  rfl

theorem State.armingCheck_of_clear (hst : (s.window w).state = .arming) (hp : s.passTagIn w = false) :
    s.armingCheck w = s.setWinState w .active := if_pos ⟨hst, hp⟩

theorem State.armingCheck_of_pass (hp : s.passTagIn w = true) : s.armingCheck w = s :=
  if_neg fun h => by simp [hp] at h

theorem State.snapshotOn_iff :
    s.snapshotOn w = true ↔ s.snap.state ≠ .idle ∧ ∃ b, s.snap.job = some b ∧ b.window = w := by
  unfold State.snapshotOn
  cases s.snap.job <;> simp [SnapState.isBusy_iff]

/-! ### The counts of a window's entries (R23) -/

theorem State.countP_entries_eq_zero {p : Option Entry → Bool} :
    s.entries.toList.countP p = 0 ↔ ∀ e, p (s.entry e) = false := by
  simp only [List.countP_eq_zero, Vector.mem_toList_iff, Vector.mem_iff_getElem, Bool.not_eq_true]
  constructor
  · exact fun h e => h _ ⟨e.val, e.isLt, rfl⟩
  · rintro h _ ⟨e, he, rfl⟩
    exact h ⟨e, he⟩

theorem State.entryCount_eq_zero : s.entryCount w = 0 ↔ ∀ e x, s.entry e = some x → x.window ≠ w := by
  simp only [State.entryCount, State.countP_entries_eq_zero]
  refine forall_congr' fun e => ?_
  cases s.entry e <;> simp [belongsTo]

theorem State.strandedCount_eq_zero :
    s.strandedCount w = 0 ↔
      ∀ e x, s.entry e = some x → x.window = w → x.body.isStranded = false ∧ x.retry = false := by
  simp only [State.strandedCount, State.countP_entries_eq_zero]
  refine forall_congr' fun e => ?_
  cases s.entry e with
  | none => simp [belongsTo]
  | some x => by_cases hw : x.window = w <;> simp [belongsTo, hw]

theorem State.holdsRequestOf_eq_false : s.holdsRequestOf w = false ↔ ∀ h, s.hold = some h → h.decoded.window ≠ w := by
  unfold State.holdsRequestOf
  cases s.hold <;> simp

theorem State.underRetry_iff : s.underRetry w = true ↔ ∃ e x, s.entry e = some x ∧ x.window = w ∧ x.retry = true := by
  simp only [State.underRetry, List.any_eq_true, Vector.mem_toList_iff, Vector.mem_iff_getElem]
  constructor
  · rintro ⟨_, ⟨e, he, rfl⟩, hhit⟩
    split at hhit
    · rename_i x hx
      rw [hx, Bool.and_eq_true] at hhit
      exact ⟨⟨e, he⟩, x, hx, of_decide_eq_true hhit.1, hhit.2⟩
    · simp at hhit
  · rintro ⟨e, x, hx, hw, hr⟩
    refine ⟨_, ⟨e.val, e.isLt, hx⟩, ?_⟩
    simp [belongsTo, hw, hr]

/-- A window drained of its entries and of the held request quiesces (R35). -/
theorem State.drainCheck_of_due (hst : (s.window w).state = .draining) (he : s.entryCount w = 0)
    (hh : s.holdsRequestOf w = false) : s.drainCheck w = s.setWinState w .quiesced := if_pos ⟨hst, he, hh⟩

/-! ### Freeing entries (R65) -/

theorem State.entry_freeEntries (s : State) (es : List EntryNo) (e : EntryNo) :
    (s.freeEntries es).entry e = if e ∈ es then none else s.entry e := by
  induction es generalizing s with
  | nil => simp [State.freeEntries]
  | cons f fs ih =>
    rw [State.freeEntries, List.foldl_cons, ← State.freeEntries, ih,
      show (s.freeEntry f).entry e = (s.setEntry f none).entry e from rfl, State.entry_setEntry]
    by_cases hf : f = e
    · simp [hf]
    · simp [hf, Ne.symm hf]

theorem State.mem_strandedOf {e : EntryNo} :
    e ∈ s.strandedOf w ↔ ∃ x, s.entry e = some x ∧ x.window = w ∧ x.body.isStranded = true := by
  simp only [State.strandedOf, List.mem_filter, List.mem_finRange, true_and]
  cases s.entry e <;> simp [belongsTo, isStranded]

/-- DISCARD leaves no entry stranded or under retry where none was under retry (R159). -/
theorem State.strandedCount_discarded (h : s.underRetry w = false) :
    (s.freeEntries (s.strandedOf w)).strandedCount w = 0 := by
  refine State.strandedCount_eq_zero.mpr fun e x hx hw => ?_
  rw [State.entry_freeEntries] at hx
  split at hx
  · cases hx
  · rename_i hmem
    have hretry : ¬ s.underRetry w = true := by simp [h]
    rw [State.mem_strandedOf] at hmem
    rw [State.underRetry_iff] at hretry
    refine ⟨?_, ?_⟩
    · by_contra hs
      exact hmem ⟨x, hx, hw, by simpa using hs⟩
    · by_contra hr
      exact hretry ⟨e, x, hx, hw, by simpa using hr⟩

end Sys2Proof.Machine
end

section
/-!
SUPPORT. The field checks of WINDOW LOAD (R29) and its overlap check (R30), in the words of the rules.
-/

namespace Sys2Proof.Machine

variable {s : State} {a : LoadArgs} {l : Width}

theorem Width.ofLanes_lanes (l : Width) : Width.ofLanes l.lanes = some l := by
  cases l <;> rfl

theorem Width.lanes_cases (l : Width) : l.lanes = 1 ∨ l.lanes = 2 ∨ l.lanes = 4 := by
  cases l <;> simp [Width.lanes]

theorem Width.lanes_of_ofLanes {n : Nat} (h : Width.ofLanes n = some l) : l.lanes = n := by
  unfold Width.ofLanes at h
  split at h
  · cases h; simp_all [Width.lanes]
  · split at h
    · cases h; simp_all [Width.lanes]
    · split at h
      · cases h; simp_all [Width.lanes]
      · cases h

theorem loadFieldsOk_iff (hl : l.lanes = a.lanes.toNat) :
    loadFieldsOk a ↔ a.count.toNat ≠ 0 ∧ a.count.toNat ≤ Config.maxCounters ∧ a.storage.toNat % l.bytes = 0 ∧
      a.aliasBase.toNat % l.bytes = 0 ∧ a.storage.toNat + a.count.toNat * l.bytes ≤ Config.addressEnd ∧
      a.aliasBase.toNat + 4 * (a.count.toNat * l.bytes) ≤ Config.addressEnd ∧ a.exponent.toNat ≤ l.bits := by
  have hlanes := l.lanes_cases
  simp only [loadFieldsOk, ← hl, hlanes, true_and, Nat.dvd_iff_mod_eq_zero]
  rfl

/-- The configuration that the field checks of WINDOW LOAD pass (R29). -/
theorem LoadArgsConfig_of_ok (hl : l.lanes = a.lanes.toNat) (h : loadFieldsOk a) :
    LoadArgsConfig a = some (loadedConfig a l) := by
  rw [loadFieldsOk_iff hl] at h
  simp only [LoadArgsConfig, ← hl, Width.ofLanes_lanes]
  exact if_pos h

theorem LoadArgsConfig_of_not_ok (h : ¬ loadFieldsOk a) : LoadArgsConfig a = none := by
  unfold LoadArgsConfig
  split
  · rfl
  · rename_i l hl
    rw [loadFieldsOk_iff (Width.lanes_of_ofLanes hl)] at h
    exact if_neg h

theorem exists_width_of_ok (h : loadFieldsOk a) : ∃ l : Width, l.lanes = a.lanes.toNat := by
  obtain ⟨h1 | h2 | h4, -⟩ := h
  · exact ⟨.one, h1.symm⟩
  · exact ⟨.two, h2.symm⟩
  · exact ⟨.four, h4.symm⟩

theorem loadRanges_eq (hl : l.lanes = a.lanes.toNat) : loadRanges a = (loadedConfig a l).ranges := by
  simp only [loadRanges, ← hl]
  rfl

theorem State.loadOverlaps_loaded (hl : l.lanes = a.lanes.toNat) :
    s.loadOverlaps (loadedConfig a l) = true ↔ s.loadMeets a := by
  rw [State.loadOverlaps_iff, State.loadMeets, loadRanges_eq hl]
  refine or_congr_left ?_
  simp [WinConfig.ranges]

end Sys2Proof.Machine

open Sys2Proof Sys2Proof.Machine

/-- Settles O36: each check fails in its order, and a load that passes them stores the configuration. -/
theorem windowLoads : Obligations.WindowLoads := by
  intro s a w htake hw refused
  have hwindow : ∀ run : WinNo → Reply, withWindow a.window s.counted run = run w :=
    fun run => withWindow_of_toNat hw s.counted run
  have hload : ∀ {t st res}, s.counted.windowLoad a = { st := t, status := st, results := res } →
      exec (.windowLoad a) s = .next (finish s (t.answered codeWindowLoad st res)) :=
    State.next_finish_endFrame htake codeWindowLoad (fun t => t.windowLoad a)
  have hwin : s.counted.window w = s.window w := rfl
  refine ⟨fun hst => hload ?_, fun hst hbad => hload ?_, fun hst hok hmeets => hload ?_,
    fun l hl hst hok hmeets => hload ?_⟩
  all_goals rw [State.windowLoad, hwindow, hwin]
  · exact if_pos hst
  · rw [if_neg (not_not.mpr hst), LoadArgsConfig_of_not_ok hbad]
    rfl
  · obtain ⟨l, hl⟩ := exists_width_of_ok hok
    have hover : s.counted.loadOverlaps (loadedConfig a l) = true := (State.loadOverlaps_loaded hl).mpr hmeets
    rw [if_neg (not_not.mpr hst), LoadArgsConfig_of_ok hl hok]
    exact if_pos hover
  · have hover : ¬ s.counted.loadOverlaps (loadedConfig a l) = true := fun h => hmeets ((State.loadOverlaps_loaded hl).mp h)
    rw [if_neg (not_not.mpr hst), LoadArgsConfig_of_ok hl hok]
    exact if_neg hover

/-- Settles O37: the arming check finds a PASS tag in the window's ranges or makes it ACTIVE. -/
theorem windowArms : Obligations.WindowArms := by
  refine ⟨fun s w htake => ?_, fun s w => ⟨fun hst hp => ?_, fun hno => ?_⟩⟩
  · intro st c inFlight
    have hflight : (s.counted.setWinState w .arming).passTagIn w = true ↔ inFlight := by
      rw [State.passTagIn_setWinState]
      exact State.passTagIn_iff
    have harm : ∀ {t st res}, s.counted.windowArm c = { st := t, status := st, results := res } →
        exec (.windowArm c) s = .next (finish s (t.answered codeWindowArm st res)) :=
      State.next_finish_endFrame htake codeWindowArm (fun t => t.windowArm c)
    have hrule : s.counted.windowArm c = if st = .loaded ∨ st = .quiesced then
        okay ((s.counted.setWinState w .arming).armingCheck w) [] else refuse s.counted .wrongState := by
      rw [State.windowArm, withWindow_ofNat]
      show _ = if (s.counted.window w).state = .loaded ∨ (s.counted.window w).state = .quiesced then _ else _
      cases (s.counted.window w).state <;> simp
    refine ⟨fun hl hq => harm ?_, fun hst hin => harm ?_, fun hst hin => harm ?_⟩ <;> rw [hrule]
    · exact if_neg (by tauto)
    · rw [if_pos hst, State.armingCheck_of_pass (hflight.mpr hin)]
      rfl
    · have hp : (s.counted.setWinState w .arming).passTagIn w = false := Bool.eq_false_iff.mpr (mt hflight.mp hin)
      rw [if_pos hst, State.armingCheck_of_clear (by rw [State.window_setWinState_same]) hp, State.setWinState_setWinState]
      rfl
  · exact next_finish_congr (State.armingCheck_of_clear hst hp) s
  · have hcheck : s.armingCheck w = s := if_neg fun h => by
      rcases hno with hst | hp
      · exact hst h.1
      · simp [hp] at h
    exact next_finish_congr hcheck s

/-- Settles O38: the two checks of WINDOW DRAIN, the drain it starts, and the drain check of WINDOW QUIESCE. -/
theorem windowDrains : Obligations.WindowDrains := by
  refine ⟨fun s w htake => ?_, fun s w => ?_⟩
  · intro c onIt u flushed
    have hon : s.counted.snapshotOn w = true ↔ onIt := State.snapshotOn_iff
    have hdrain : ∀ {t st res}, s.counted.windowDrain c = { st := t, status := st, results := res } →
        exec (.windowDrain c) s = .next (finish s (t.answered codeWindowDrain st res)) :=
      State.next_finish_endFrame htake codeWindowDrain (fun t => t.windowDrain c)
    have hwin : s.counted.window w = s.window w := rfl
    refine ⟨fun hst => hdrain ?_, fun hst hin => hdrain ?_, fun hst hin => hdrain ?_⟩
    all_goals rw [State.windowDrain, withWindow_ofNat, hwin]
    · exact if_pos hst
    · rw [if_neg (not_not.mpr hst), if_pos (hon.mpr hin)]
      rfl
    · have hclean : flushed.clean = s.clean := State.startFlushes_clean _ _
      rw [if_neg (not_not.mpr hst), if_neg (mt hon.mp hin), ← hclean]
      rfl
  · intro due
    have hdue : due ↔ (s.window w).state = .draining ∧ s.entryCount w = 0 ∧ s.holdsRequestOf w = false := by
      rw [State.entryCount_eq_zero, State.holdsRequestOf_eq_false]
    exact ⟨fun h => next_finish_congr (if_pos (hdue.mp h)) s, fun h => next_finish_congr (if_neg (mt hdue.mpr h)) s⟩

/-- Settles O49: DISCARD's two checks, and the exit from FAULT once no entry is left stranded or under retry. -/
theorem discardFrees : Obligations.DiscardFrees := by
  intro s w htake c es
  have hdiscard : ∀ {t st res}, s.counted.discardWindow c = { st := t, status := st, results := res } →
      exec (.discard c) s = .next (finish s (t.answered codeDiscard st res)) :=
    State.next_finish_endFrame htake codeDiscard (fun t => t.discardWindow c)
  have hwin : s.counted.window w = s.window w := rfl
  have hretry : s.counted.underRetry w = true ↔ ∃ e x, s.entry e = some x ∧ x.window = w ∧ x.retry = true :=
    State.underRetry_iff
  refine ⟨fun hst => hdiscard ?_, fun q hst hr => hdiscard ?_, fun q hst hr => ?_⟩
  · have hfault : (!(s.window w).state.isFault) = true := by
      cases h : (s.window w).state with
      | fault q => exact absurd h (hst q)
      | _ => rfl
    rw [State.discardWindow, withWindow_ofNat, hwin]
    exact if_pos hfault
  · rw [State.discardWindow, withWindow_ofNat, hwin, hst]
    exact if_pos (hretry.mpr hr)
  · have hnone : s.counted.underRetry w = false := by
      rw [Bool.eq_false_iff, ne_eq, hretry]
      rintro ⟨e, x, hx, hw, hmark⟩
      simp [hr e x hx hw] at hmark
    have hcount : (s.counted.freeEntries es).strandedCount w = 0 := State.strandedCount_discarded hnone
    have hstate : ((s.counted.freeEntries es).window w).state = .fault q := by
      rw [State.window, State.windows_of_fixed (State.freeEntries_fixed s.counted es)]
      exact hst
    intro u v
    have hv : s.counted.discardAll w = v := by
      show (s.counted.freeEntries es).faultExit w = v
      rw [State.faultExit, hstate]
      dsimp only
      rw [if_pos hcount]
      cases q <;> rfl
    refine hdiscard ?_
    rw [State.discardWindow, withWindow_ofNat, hwin, hst, hnone, hv]
    rfl

/-- Settles O35: the window check comes first in each of the eight commands. -/
theorem windowNumberChecked : Obligations.WindowNumberChecked := by
  intro s w htake hw
  have habove : ∀ (code : Byte) (run : State → WinNo → Reply),
      s.endFrame code (fun t => withWindow w t (run t)) = s.counted.answered code .badArgument [] :=
    fun code run => State.endFrame_above htake hw code run
  have hend := fun (code : Byte) (run : State → WinNo → Reply) => next_finish_congr (habove code run) s
  exact ⟨hend codeWindowArm _, hend codeWindowDrain _, hend codeWindowRelease _,
    congrArg Host.Outcome.next (habove codeWindowStatus _), hend codeRetry _, hend codeDiscard _,
    fun a ha => by subst ha; exact hend codeWindowLoad _, fun a ha => by subst ha; exact hend codeSnapshotStart _⟩

/-- Settles O39: the two states WINDOW RELEASE accepts, and the codes of WINDOW STATUS. -/
theorem windowReleasesAndReports : Obligations.WindowReleasesAndReports := by
  refine ⟨fun s w htake => ?_, fun s w htake => ?_⟩
  · intro st c
    have hrelease : ∀ {t st res}, s.counted.windowRelease c = { st := t, status := st, results := res } →
        exec (.windowRelease c) s = .next (finish s (t.answered codeWindowRelease st res)) :=
      State.next_finish_endFrame htake codeWindowRelease (fun t => t.windowRelease c)
    have hwin : s.counted.window w = s.window w := rfl
    refine ⟨fun hl hq => hrelease ?_, fun hst => hrelease ?_⟩
    all_goals rw [State.windowRelease, withWindow_ofNat, hwin]
    · cases h : (s.window w).state with
      | loaded => exact absurd h hl
      | quiesced => exact absurd h hq
      | _ => rfl
    · rcases hst with h | h <;> simp only [show (s.window w).state = _ from h] <;> rfl
  · have hreply : s.counted.windowStatus (BitVec.ofNat 8 w.val) = okay s.counted
        (bytesLE 1 (winStateCode (s.window w).state) ++ bytesLE 1 (resumeCode (s.window w).state) ++
          bytesLE 2 (s.entryCount w) ++ bytesLE 2 (s.strandedCount w)) := withWindow_ofNat w _ _
    have hexec := State.endFrame_reply htake codeWindowStatus (fun t => t.windowStatus (BitVec.ofNat 8 w.val)) hreply
    refine congrArg Host.Outcome.next (hexec.trans ?_)
    cases (s.window w).state with
    | fault q => cases q <;> rfl
    | _ => rfl

end

section
/-!
SUPPORT. The reset values that more than one statement speaks of: entries, tags, lists and windows after a hard reset.
-/

namespace Sys2Proof.Machine

variable {s : State}

/-! ### A table without entries -/

theorem State.freeCount_of_replicate (h : s.entries = Vector.replicate 256 none) : s.freeCount = 256 := by
  rw [State.freeCount, h, Vector.toList_replicate, List.countP_replicate]
  rfl

theorem State.freeWaiters_of_replicate (h : s.entries = Vector.replicate 256 none) : s.freeWaiters = 64 := by
  rw [State.freeWaiters, h, Vector.toList_replicate, List.map_replicate, List.sum_replicate]
  rfl

theorem State.freeTags_of_replicate (h : s.tags = Vector.replicate 32 none) : s.freeTags = 32 := by
  rw [State.freeTags, h, Vector.toList_replicate, List.countP_replicate]
  rfl

/-- With no entry, no tag and the three lists empty there is nothing for R62 to R72 to be broken by. -/
theorem State.tableConsistent_of_empty (he : s.entries = Vector.replicate 256 none) (hg : ∀ g, s.tagAt g = none)
    (hd : s.dirty = []) (hc : s.clean = []) (hi : s.issue = []) : s.tableConsistent := by
  have hentry : ∀ e, s.entry e = none := fun e => by
    rw [State.entry, he]
    exact Vector.getElem_replicate _
  have hsum : (s.entries.toList.map waitersOf).sum = 0 := by
    rw [he, Vector.toList_replicate, List.map_replicate, List.sum_replicate]
    rfl
  unfold State.tableConsistent State.oneEntryEach
  simp [hentry, hg, hd, hc, hi, hsum]

end Sys2Proof.Machine

open Sys2Proof Sys2Proof.Machine

/-- Settles O5: field by field, with the counts of the empty table. -/
theorem hardResetValues : Obligations.HardResetValues := by
  intro s
  have hentry : ∀ e, s.hardReset.entry e = none := fun _ => Vector.getElem_replicate _
  have hwindow : ∀ w, s.hardReset.window w = { state := .empty, config := none } := fun _ => Vector.getElem_replicate _
  have hlist : ∀ id, s.hardReset.list id = { records := [], nextKey := 0 } := fun _ => Vector.getElem_replicate _
  have hirq : s.hardReset.irqLow = false := by
    show decide (_ &&& (0 : BitVec 4) ≠ 0) = false
    simp
  refine ⟨s.hardReset, rfl, fun w => ⟨hwindow w, ?_, ?_⟩, ⟨rfl, fun id => ⟨?_, Vector.getElem_replicate _⟩, rfl, rfl⟩,
    ⟨hentry, rfl, rfl, rfl, State.freeCount_of_replicate rfl, State.freeWaiters_of_replicate rfl⟩,
    ⟨rfl, rfl, rfl, rfl, rfl, rfl, rfl, rfl, rfl⟩, ⟨fun _ => Vector.getElem_replicate _, rfl, rfl, rfl⟩,
    ⟨rfl, fun _ => Vector.getElem_replicate _, rfl, rfl, rfl, rfl, rfl, rfl⟩, ⟨rfl, rfl⟩, ⟨rfl, rfl, rfl, hirq⟩,
    ⟨rfl, rfl, rfl, rfl⟩⟩
  · exact State.entryCount_eq_zero.mpr fun e x hx => by simp [hentry] at hx
  · exact State.strandedCount_eq_zero.mpr fun e x hx => by simp [hentry] at hx
  · rw [hlist]

/-- Settles O57: the empty blocks meet each invariant, and the 32 free tags cover the reservations. -/
theorem resetMeetsInvariants : Obligations.ResetMeetsInvariants := by
  have hentry : ∀ e, State.reset.entry e = none := fun _ => Vector.getElem_replicate _
  have hlist : ∀ id, State.reset.list id = { records := [], nextKey := 0 } := fun _ => Vector.getElem_replicate _
  refine ⟨by unfold State.paramsInRange; decide, State.windowsDisjoint_of_empty fun _ => Vector.getElem_replicate _, ?_, ?_,
    State.tableConsistent_of_empty rfl (fun _ => Vector.getElem_replicate _) rfl rfl rfl, fun mem => ?_⟩
  · have htags : State.reset.freeTags = 32 := State.freeTags_of_replicate rfl
    have htable : State.reset.unusedReserve .table ≤ 4 := Nat.sub_le _ _
    have hsnap : State.reset.unusedReserve .snap ≤ 2 := Nat.sub_le _ _
    unfold State.reservesCovered
    omega
  · exact ⟨fun id r hr => by simp [hlist] at hr, fun id => by simp [hlist], Nat.zero_le _, Nat.zero_le _, Nat.zero_le _⟩
  · exact ⟨fun e x v hx => by simp [hentry] at hx, fun e he => by cases he⟩

end

section
/-!
SUPPORT. The entry of a window into FAULT, and the failing of the snapshot on it (R37, R142, R144).
-/

namespace Sys2Proof.Machine

variable {s : State} {w : WinNo} {i : Nat}

theorem State.slotsFree_iff : s.slotsFree = true ↔ ∀ k, s.slot k = .free := by
  simp only [State.slotsFree, List.all_eq_true, Vector.mem_toList_iff, Vector.mem_iff_getElem, decide_eq_true_eq]
  constructor
  · exact fun h k => h _ ⟨k.val, k.isLt, rfl⟩
  · rintro h _ ⟨k, hk, rfl⟩
    exact h ⟨k, hk⟩

/-- A failed snapshot ends at once where every slot is FREE, and otherwise stays ABORTING (R142). -/
def State.endsFailed (s t : State) : Prop :=
  ((∀ k, t.slot k = .free) → t.snap.state = .idle ∧ t.snap.lastResult = .failed ∧ t.snap.done = true) ∧
    ((∃ k, t.slot k ≠ .free) → t.snap.state = .aborting .failed ∧ t.snap.lastResult = s.snap.lastResult ∧
      t.snap.done = s.snap.done)

/-- What the end check leaves alone. -/
theorem State.endCheck_keeps (s : State) :
    s.endCheck.entries = s.entries ∧ s.endCheck.snap.slots = s.snap.slots ∧
      s.endCheck.snap.exceptions = s.snap.exceptions ∧ s.endCheck.snap.failing = s.snap.failing ∧
      s.endCheck.snap.job = s.snap.job ∧ s.endCheck.snap.writeOrder = s.snap.writeOrder := by
  unfold State.endCheck
  split
  · split <;> exact ⟨rfl, rfl, rfl, rfl, rfl, rfl⟩
  all_goals exact ⟨rfl, rfl, rfl, rfl, rfl, rfl⟩

theorem State.endCheck_endsFailed {t : State} (h : t.snap.state = .aborting .failed)
    (hr : t.snap.lastResult = s.snap.lastResult) (hd : t.snap.done = s.snap.done) : s.endsFailed t.endCheck := by
  unfold State.endCheck
  rw [h]
  dsimp only
  split
  · rename_i hfree
    rw [State.slotsFree_iff] at hfree
    exact ⟨fun _ => ⟨rfl, rfl, rfl⟩, fun ⟨k, hk⟩ => absurd (hfree k) hk⟩
  · rename_i hbusy
    rw [State.slotsFree_iff] at hbusy
    exact ⟨fun hfree => absurd hfree hbusy, fun _ => ⟨h, hr, hd⟩⟩

theorem State.enterFault_of_active (h : (s.window w).state = .active) :
    s.enterFault w i = (s.setWinState w (.fault .active)).snapshotFaulted w i := by
  simp only [State.enterFault, h]

theorem State.enterFault_of_draining (h : (s.window w).state = .draining) :
    s.enterFault w i = (s.setWinState w (.fault .draining)).snapshotFaulted w i := by
  simp only [State.enterFault, h]

/-- A window that a stranding finds ACTIVE or DRAINING goes to FAULT, and fails the snapshot on it. -/
theorem State.enterFault_cases (h : (s.window w).state = .active ∨ (s.window w).state = .draining) (i : Nat) :
    ∃ q, s.enterFault w i = (s.setWinState w (.fault q)).snapshotFaulted w i := by
  rcases h with h | h
  · exact ⟨_, State.enterFault_of_active h⟩
  · exact ⟨_, State.enterFault_of_draining h⟩

theorem State.snapshotFaulted_window (s : State) (w : WinNo) (i : Nat) (v : WinNo) :
    (s.snapshotFaulted w i).window v = s.window v := by
  rw [State.window, State.windows_of_fixed (s.snapshotFaulted_fixed w i)]
  rfl

/-- The snapshot of another window, or an idle engine, is left alone. -/
theorem State.snapshotFaulted_other (h : (∀ b, s.snap.job = some b → b.window ≠ w) ∨ s.snap.state = .idle) (i : Nat) :
    s.snapshotFaulted w i = s := by
  unfold State.snapshotFaulted
  split
  · rename_i b hb
    split
    · rename_i hw
      rcases h with hother | hidle
      · exact absurd hw (hother b hb)
      · rw [State.failSnapshot, hidle, State.endCheck, hidle]
    · rfl
  · rfl

theorem State.snapshotFaulted_on {b : SnapJob} (hb : s.snap.job = some b) (hw : b.window = w) (i : Nat) :
    s.snapshotFaulted w i = (s.failSnapshot i).endCheck := by
  simp only [State.snapshotFaulted, hb, hw, if_true]

/-- Failing leaves the job and the write order. -/
theorem State.failSnapshot_keeps (s : State) (i : Nat) :
    (s.failSnapshot i).snap.job = s.snap.job ∧ (s.failSnapshot i).snap.writeOrder = s.snap.writeOrder := by
  unfold State.failSnapshot
  split <;> exact ⟨rfl, rfl⟩

theorem State.snapshotFaulted_keeps (s : State) (w : WinNo) (i : Nat) :
    (s.snapshotFaulted w i).snap.job = s.snap.job ∧ (s.snapshotFaulted w i).snap.writeOrder = s.snap.writeOrder := by
  obtain ⟨-, -, -, -, hjob, horder⟩ := (s.failSnapshot i).endCheck_keeps
  obtain ⟨hj, ho⟩ := s.failSnapshot_keeps i
  unfold State.snapshotFaulted
  repeat' split
  · exact ⟨hjob.trans hj, horder.trans ho⟩
  all_goals exact ⟨rfl, rfl⟩

theorem State.slot_of_slots {t : State} (h : t.snap.slots = s.snap.slots) (k : SlotNo) : t.slot k = s.slot k := by
  rw [State.slot, h]
  rfl

/-- Leaving RUNNING frees the slots whose capture is untaken (R141). -/
theorem State.slot_leaveRunning (s : State) (q : Ending) (k : SlotNo) :
    (s.leaveRunning q).slot k = match s.slot k with
      | .requested _ => .free
      | x => x := by
  have hmap : (s.leaveRunning q).slot k = (s.slot k).withdrawn := by
    simp [State.slot, State.leaveRunning, State.withdrawCaptures]
  rw [hmap]
  cases s.slot k <;> rfl

/-- What failing at index `i` makes of the snapshot, by the state of its engine: RUNNING, its untaken captures are
withdrawn; ABORTING, only the ending result and the index can change (R143, R144). -/
def State.failsSnapshot (s t : State) (i : Nat) : Prop :=
  (∀ l, s.snap.state = .running l → t.entries = s.withdrawCaptures.entries ∧
    (∀ k, t.slot k = match s.slot k with
      | .requested _ => .free
      | x => x) ∧
    t.snap.exceptions = [] ∧ t.snap.failing = some i ∧ s.endsFailed t) ∧
  (s.snap.state = .aborting .aborted → t.entries = s.entries ∧ (∀ k, t.slot k = s.slot k) ∧
    t.snap.exceptions = s.snap.exceptions ∧ t.snap.failing = some i ∧ s.endsFailed t) ∧
  (s.snap.state = .aborting .failed → t.entries = s.entries ∧ (∀ k, t.slot k = s.slot k) ∧
    t.snap.exceptions = s.snap.exceptions ∧ t.snap.failing = s.snap.failing ∧ s.endsFailed t)

theorem State.endCheck_failsSnapshot (s : State) (i : Nat) : s.failsSnapshot (s.failSnapshot i).endCheck i := by
  obtain ⟨hentries, hslots, hexc, hfail, -, -⟩ := (s.failSnapshot i).endCheck_keeps
  refine ⟨fun l hl => ?_, fun ha => ?_, fun hf => ?_⟩
  · have hrun : s.failSnapshot i = { s.leaveRunning .failed with
        snap := { (s.leaveRunning .failed).snap with failing := some i } } := by
      rw [State.failSnapshot, hl]
    rw [hrun] at hentries hslots hexc hfail ⊢
    exact ⟨hentries, fun k => (State.slot_of_slots hslots k).trans (s.slot_leaveRunning .failed k), hexc, hfail,
      State.endCheck_endsFailed rfl rfl rfl⟩
  · have habort : s.failSnapshot i = { s with snap := { s.snap with state := .aborting .failed, failing := some i } } := by
      rw [State.failSnapshot, ha]
    rw [habort] at hentries hslots hexc hfail ⊢
    exact ⟨hentries, State.slot_of_slots hslots, hexc, hfail, State.endCheck_endsFailed rfl rfl rfl⟩
  · have hstay : s.failSnapshot i = s := by
      rw [State.failSnapshot, hf]
    rw [hstay] at hentries hslots hexc hfail ⊢
    exact ⟨hentries, State.slot_of_slots hslots, hexc, hfail, State.endCheck_endsFailed hf rfl rfl⟩

end Sys2Proof.Machine

open Sys2Proof Sys2Proof.Machine

/-- Settles O47: the window's change, the snapshot's by the state of its engine, and the fault record's. -/
theorem faultRecordKept : Obligations.FaultRecordKept := by
  refine ⟨⟨fun s w i => ⟨fun h => ?_, fun h => ?_, fun q h => ?_⟩, fun s w i hst => ?_,
    fun s k w i => ⟨fun h => ?_, fun f h => ?_⟩⟩, fun s htake => ?_⟩
  · rw [State.enterFault_of_active h, State.snapshotFaulted_window, State.window_setWinState_same]
  · rw [State.enterFault_of_draining h, State.snapshotFaulted_window, State.window_setWinState_same]
  · simp only [State.enterFault, h]
  · obtain ⟨q, hq⟩ := State.enterFault_cases hst i
    rw [hq]
    obtain ⟨hjob, horder⟩ := (s.setWinState w (.fault q)).snapshotFaulted_keeps w i
    refine ⟨fun v hv => ?_, hjob, horder, fun hother => ?_, fun b hb hw => ?_⟩
    · rw [State.snapshotFaulted_window, State.window_setWinState, if_neg hv.symm]
    · rw [State.snapshotFaulted_other (s := s.setWinState w (.fault q)) hother]
      exact ⟨rfl, rfl⟩
    · rw [State.snapshotFaulted_on (s := s.setWinState w (.fault q)) hb hw]
      exact (s.setWinState w (.fault q)).endCheck_failsSnapshot i
  · simp only [State.handFault, h]
  · simp only [State.handFault, h, Config.furtherMax, FaultRecord.mk.injEq, true_and]
    split <;> omega
  · have hread := State.endFrame_reply htake codeFaultRead State.faultRead rfl
    refine congrArg Host.Outcome.next (hread.trans (congrArg _ ?_))
    show s.faults.bytes = _
    unfold FaultRecord.bytes
    cases s.faults.first with
    | none => rfl
    | some f =>
      dsimp only
      cases f.kind <;> rfl

end

section
/-!
SUPPORT. The offer of a counter request in words: what the latch does not serve (R56), what an offer lacks (R66, R136), and
the bearing of an acceptance on the latch (R54, R57).
-/

namespace Sys2Proof.Machine

variable {s : State} {w : WinNo} {i : Nat} {o : Operation} {id : UpId} {link : Nat} {k : OpKind}

/-! ### The table by its entries -/

theorem State.entries_toList (s : State) : s.entries.toList = (List.finRange 256).map s.entry := by
  refine List.ext_getElem (by simp) fun n h1 h2 => ?_
  simp [State.entry]

theorem State.allStranded_iff : s.allStranded = true ↔ (∀ e, isStranded (s.entry e) = true) ∧ s.clean = [] := by
  simp [State.allStranded, State.entries_toList]

theorem State.lowestFree_eq_none : s.lowestFree = none ↔ ∀ e, s.entry e ≠ none := by
  simp [State.lowestFree]

/-- An entry can be had for a counter without one unless none is FREE and the clean list is empty (R63). -/
theorem State.noEntryFor_iff : ((s.lookup w i).isNone && !s.canObtain) = true ↔ s.noEntryFor w i := by
  simp [State.canObtain, State.noEntryFor, ← State.lowestFree_eq_none]

theorem State.earlySlot_eq_none : s.earlySlot = none ↔ ∀ j, j ≠ 16 → s.slot j ≠ .free := by
  simp [State.earlySlot]

theorem OpKind.isAdd_iff : k.isAdd = true ↔ k = .add := by
  cases k <;> simp [OpKind.isAdd]

theorem OpKind.isUpdate_iff : k.isUpdate = true ↔ k ≠ .read := by
  cases k <;> simp [OpKind.isUpdate]

theorem OpKind.isPosted_iff : k.isPosted = true ↔ k ≠ .read ∧ k ≠ .take := by
  cases k <;> simp [OpKind.isPosted]

/-- The records that R66's table asks for are those the model counts on. -/
theorem State.waiterNeed_eq {cap : Bool} {n : Nat} (h : s.recordsNeeded w i k cap n) :
    waiterNeed (s.counterEntry w i) k cap = n := by
  rcases h with ⟨hl, rfl⟩ | ⟨e, x, hl, hx, ⟨⟨d, m, hb⟩, rfl⟩ | ⟨⟨d, m, q, hb⟩, rfl⟩ | ⟨⟨v, m, hb⟩, rfl⟩⟩
  · simp only [State.counterEntry_of_lookup_none hl, waiterNeed, OpKind.isAdd_iff]
  · simp only [State.counterEntry_of_lookup_some hl, hx, waiterNeed, hb, OpKind.isAdd_iff]
  · simp only [State.counterEntry_of_lookup_some hl, hx, waiterNeed, hb, Bool.and_eq_true, OpKind.isAdd_iff,
      decide_eq_true_eq]
  · rcases hb with hb | hb <;> simp only [State.counterEntry_of_lookup_some hl, hx, waiterNeed, hb]

/-! ### The latch -/

theorem State.latchServe_of_unserved (h : s.unserved w i o id) : s.latchServe w i o id link = none := by
  unfold State.latchServe
  split
  · rename_i hread
    rcases h with hk | hlane | hempty | ⟨v, j, f, hl, hno⟩
    · exact absurd hread.1 hk
    · omega
    · rw [hempty]
    · have hmiss : ¬ (v = w ∧ j = i ∧ f ≤ o.lane ∧ o.lane + o.lanes ≤ (s.config w).width.lanes) := by
        rintro ⟨hv, hj, hf, hfit⟩
        rcases hno with hno | hno | hno | hno
        · exact hno hv
        · exact hno hj
        · omega
        · omega
      rcases hl with ⟨src, hl⟩ | ⟨u, hl⟩ <;> rw [hl] <;> exact if_neg hmiss
  · rfl

theorem State.latchAtAcceptance_of_partial (hk : o.kind = .read) (h0 : o.lane = 0)
    (hl : o.lanes < (s.config w).width.lanes) :
    s.latchAtAcceptance w i o id link = s.setLatch id (.pending w i o.lanes link) :=
  if_pos (decide_eq_true ⟨hk, h0, hl⟩)

theorem State.latchAtAcceptance_of_read (hk : o.kind = .read)
    (h : o.lane ≠ 0 ∨ (s.config w).width.lanes ≤ o.lanes) : s.latchAtAcceptance w i o id link = s := by
  have hset : o.setsLatch (s.config w).width = false := decide_eq_false fun ⟨_, h0, hl⟩ => by omega
  simp [State.latchAtAcceptance, hset, hk, OpKind.isUpdate]

/-- An update empties its ID's latch where it names the counter, and else leaves it (R57). -/
theorem State.latchAtAcceptance_of_update (hk : o.kind ≠ .read) :
    ((∃ j x, s.latch id = .pending w i j x ∨ s.latch id = .filled w i j x) →
      s.latchAtAcceptance w i o id link = s.setLatch id .empty) ∧
    ((∀ j x, s.latch id ≠ .pending w i j x ∧ s.latch id ≠ .filled w i j x) →
      s.latchAtAcceptance w i o id link = s) := by
  have hset : o.setsLatch (s.config w).width = false := decide_eq_false fun h => hk h.1
  have hup : o.kind.isUpdate = true := OpKind.isUpdate_iff.mpr hk
  simp only [State.latchAtAcceptance, hset, hup, if_true, Bool.false_eq_true, if_false]
  cases hl : s.latch id with
  | empty => simp
  | pending v j f x | filled v j f x =>
    dsimp only
    by_cases hn : v = w ∧ j = i
    · obtain ⟨rfl, rfl⟩ := hn
      simp
    · rw [if_neg hn]
      refine ⟨?_, fun _ => rfl⟩
      rintro ⟨g, y, hp | hp⟩ <;> cases hp
      exact absurd ⟨rfl, rfl⟩ hn

/-! ### The offer -/

theorem State.offerLack_noEntry (h : s.noEntryFor w i) : s.offerLack w i k = some .noEntry :=
  if_pos (State.noEntryFor_iff.mpr h)

theorem State.offerLack_noPlace (hno : ¬ s.noEntryFor w i)
    (h : s.earlyCapture w i k = true ∧ 16 ≤ s.snap.exceptions.length) : s.offerLack w i k = some .noExceptionPlace := by
  have hplace : (s.earlyCapture w i k && decide (Config.exceptionPlaces ≤ s.snap.exceptions.length)) = true := by
    rw [Bool.and_eq_true, decide_eq_true_eq]
    exact h
  unfold State.offerLack
  rw [if_neg (mt State.noEntryFor_iff.mp hno)]
  exact if_pos hplace

/-- With an entry and a place to be had, an offer lacks a slot or the records it needs. -/
theorem State.offerLack_of_place (hno : ¬ s.noEntryFor w i)
    (h : ¬ (s.earlyCapture w i k = true ∧ 16 ≤ s.snap.exceptions.length)) :
    s.offerLack w i k =
      if s.earlyCapture w i k = true ∧ ∀ j, j ≠ 16 → s.slot j ≠ .free then some .noCaptureSlot
      else if s.freeWaiters < waiterNeed (s.counterEntry w i) k (s.earlyCapture w i k) then some .noWaiter else none := by
  have hplace : ¬ (s.earlyCapture w i k && decide (Config.exceptionPlaces ≤ s.snap.exceptions.length)) = true := by
    rw [Bool.and_eq_true, decide_eq_true_eq]
    exact h
  unfold State.offerLack
  dsimp only
  rw [if_neg (mt State.noEntryFor_iff.mp hno), if_neg hplace]
  simp only [Bool.and_eq_true, Option.isNone_iff_eq_none, State.earlySlot_eq_none]

/-- An offer of what the latch does not serve (R45, step 5). -/
theorem State.offer_of_unserved (h : s.unserved w i o id) :
    s.offer w i o id link = match s.offerLack w i o.kind with
      | some .noEntry => if s.allStranded then .settled (s.answerFailure id link .noroom) else .waits .noEntry
      | some r => .waits r
      | none =>
        let t := (s.latchAtAcceptance w i o id link).accept w i o id link
        .settled (if o.kind.isPosted then t.answerDone id link [] else t) := by
  unfold State.offer
  split
  · rename_i t ht
    rw [State.latchServe_of_unserved h] at ht
    cases ht
  · rfl

end Sys2Proof.Machine

open Sys2Proof Sys2Proof.Machine

/-- Settles O12: each clause from the equation of the function it speaks of. -/
theorem counterRequestTreated : Obligations.CounterRequestTreated := by
  refine ⟨fun s d id link => ?_, fun s w i o id link hun hl hc hf => ?_, fun s w i o id link hun => ?_,
    fun s w i o id link => ?_, fun s w i k => ?_, fun s => ?_⟩
  · intro st go isRead offline
    have htreat : s.treat d id link = match st with
        | .arming => .waits .arming
        | .active => go
        | .draining => if isRead then go else offline
        | .fault _ =>
          if isRead then
            if isStranded (s.counterEntry d.window d.index) then .settled (s.answerFailure id link .memfault) else go
          else offline
        | .empty | .loaded | .quiesced => offline := by
      unfold State.treat
      rfl
    rw [htreat]
    refine ⟨fun h => ?_, fun h => ?_, fun ⟨h, hr⟩ => ?_, fun ⟨h, hr⟩ => ?_, fun rs h hr => ?_, fun rs h hr hs => ?_,
      fun rs h hr hs => ?_, fun h => ?_⟩
    case refine_8 => rcases h with h | h | h <;> rw [h]
    all_goals rw [h]
    · exact if_pos hr
    · exact if_neg hr
    · exact if_neg hr
    · rw [hs]
      exact if_pos hr
    · rw [hs]
      exact if_pos hr
  · have hlack : s.offerLack w i o.kind = some .noEntry := State.offerLack_noEntry ⟨hl, hf, hc⟩
    rw [State.offer_of_unserved hun, hlack]
    refine ⟨fun hall => if_pos (State.allStranded_iff.mpr ⟨hall, hc⟩), fun ⟨e, he⟩ => if_neg fun hall => ?_⟩
    have hstranded := (State.allStranded_iff.mp hall).1 e
    simp [he] at hstranded
  · intro t
    rw [State.offer_of_unserved hun]
    refine ⟨fun why hwhy hlack => ?_, fun hlack hr ht => ?_, fun hlack hk => ?_⟩ <;> rw [hlack]
    · cases why with
      | noEntry => exact absurd rfl hwhy
      | _ => rfl
    · have hposted : o.kind.isPosted = true := OpKind.isPosted_iff.mpr ⟨hr, ht⟩
      simp only [hposted, if_true]
      rfl
    · have hposted : ¬ o.kind.isPosted = true := fun h => by
        obtain ⟨hr, ht⟩ := OpKind.isPosted_iff.mp h
        exact hk.elim hr ht
      simp only [if_neg hposted]
      rfl
  · exact ⟨State.latchAtAcceptance_of_partial, State.latchAtAcceptance_of_read,
      fun hk j x h => (State.latchAtAcceptance_of_update hk).1 ⟨j, x, h⟩,
      fun hk => (State.latchAtAcceptance_of_update hk).2⟩
  · intro cap noPlace noSlot
    refine ⟨State.offerLack_noEntry, State.offerLack_noPlace, fun hno hp hs => ?_, fun n hn hno hp hs => ?_⟩
    · exact (State.offerLack_of_place hno hp).trans (if_pos hs)
    · rw [State.offerLack_of_place hno hp, State.waiterNeed_eq hn]
      exact if_neg hs
  · have hwaiters : waitersOf ∘ s.entry = fun e => match s.entry e with
        | some x => x.waiters.length
        | none => 0 := funext fun e => by
      cases h : s.entry e <;> simp [waitersOf, h]
    rw [State.freeWaiters, State.entries_toList, List.map_map, hwaiters]
    rfl

end

section
/-!
SUPPORT. The place of an entry that joins the dirty list by age (R69), and a window's resumption at the success of a retry
(R38, R103, R157).
-/

namespace Sys2Proof.Machine

variable {s u : State} {w : WinNo} {e : EntryNo}

/-! ### Joining by age (R69) -/

theorem State.insertByAge_joins (s : State) (e : EntryNo) (l : List EntryNo) : s.joinsByAge e l (s.insertByAge e l) := by
  induction l with
  | nil => exact ⟨[], [], rfl, rfl, by simp, by simp, by simp⟩
  | cons x xs ih =>
    by_cases hx : s.age e ≤ s.age x
    · obtain ⟨front, back, hl, hafter, hfront, hhead, hsorted⟩ := ih
      refine ⟨x :: front, back, by rw [hl]; rfl, ?_, ?_, hhead, fun hp => hsorted (List.pairwise_cons.mp hp).2⟩
      · rw [State.insertByAge, if_pos hx, hafter]
        rfl
      · simpa [hx] using hfront
    · refine ⟨[], x :: xs, rfl, by rw [State.insertByAge, if_neg hx]; rfl, by simp, ?_, fun hp => ?_⟩
      · rintro f rest h
        cases h
        omega
      · have hle := (List.pairwise_cons.mp hp).1
        intro f hf
        rcases List.mem_cons.mp hf with rfl | hf
        · omega
        · have := hle f hf
          omega

/-! ### Leaving FAULT (R38) -/

/-- An entry in this place is neither STRANDED nor under retry. -/
def recovered (o : Option Entry) : Prop :=
  ∀ y, o = some y → y.body.isStranded = false ∧ y.retry = false

theorem recovered_none : recovered none :=
  fun _ hy => nomatch hy

theorem recovered_some {y : Entry} (hs : y.body.isStranded = false) (hr : y.retry = false) : recovered (some y) :=
  fun _ hz => by cases hz; exact ⟨hs, hr⟩

theorem Entry.failedOp_of_recovered {y : Entry} (hs : y.body.isStranded = false) (hr : y.retry = false) :
    y.failedOp = none := by
  unfold Entry.failedOp
  cases hb : y.body <;> simp_all [Body.isStranded]

theorem State.startFlush_recovered (h : recovered (s.entry e)) (f : EntryNo) : recovered ((s.startFlush f).entry e) := by
  rcases s.startFlush_cases f with hs | ⟨x, b, hx, hb, hs⟩ <;> rw [hs]
  · exact h
  · show recovered ((s.setEntry f (some { x with body := b })).entry e)
    rw [State.entry_setEntry]
    split
    · subst_vars
      refine recovered_some ?_ (h x hx).2
      rcases hb with ⟨d, m, -, rfl⟩ | ⟨v, -, rfl⟩ <;> rfl
    · exact h

theorem State.startFlushes_recovered (es : List EntryNo) (h : recovered (s.entry e)) :
    recovered ((s.startFlushes es).entry e) := by
  induction es generalizing s with
  | nil => exact h
  | cons f fs ih => exact ih (State.startFlush_recovered h f)

theorem State.freeEntries_recovered (es : List EntryNo) (h : recovered (s.entry e)) :
    recovered ((s.freeEntries es).entry e) := by
  rw [State.entry_freeEntries]
  split
  · exact recovered_none
  · exact h

theorem State.resumed_recovered (h : recovered (s.entry e)) (w : WinNo) (rs : Resume) :
    recovered ((s.resumed w rs).entry e) := by
  cases rs with
  | active => exact h
  | draining => exact State.freeEntries_recovered _ (State.startFlushes_recovered (s := s.setWinState w .draining) _ h)

/-- The state a window resumes (R37). -/
def Resume.winState : Resume → WinState
  | .active => .active
  | .draining => .draining

/-- A window that leaves FAULT is in its resume state (R37, R38). -/
theorem State.resumed_window (s : State) (w : WinNo) (rs : Resume) :
    ((s.resumed w rs).window w).state = rs.winState := by
  cases rs with
  | active => simp [State.resumed, Resume.winState]
  | draining =>
    simp only [State.resumed]
    rw [State.window, State.windows_of_fixed (State.freeEntries_fixed _ _), State.startFlushes_windows]
    exact congrArg Window.state (State.window_setWinState_same s w .draining)

theorem State.faultExit_of_fault {rs : Resume} (h : (s.window w).state = .fault rs) :
    s.faultExit w = if s.strandedCount w = 0 then s.resumed w rs else s := by
  unfold State.faultExit
  rw [h]
  cases rs <;> rfl

/-- Some other entry of window `w` is STRANDED or under retry (R38). -/
def State.othersFaulted (s : State) (w : WinNo) (e : EntryNo) : Prop :=
  ∃ f y, f ≠ e ∧ s.entry f = some y ∧ y.window = w ∧ (isStranded (s.entry f) = true ∨ y.retry = true)

/-- Once entry `e` has recovered, its window's stranded count is that of the others. -/
theorem State.strandedCount_recovered (hother : ∀ f, f ≠ e → u.entry f = s.entry f) (he : recovered (u.entry e)) :
    u.strandedCount w = 0 ↔ ¬ s.othersFaulted w e := by
  rw [State.strandedCount_eq_zero]
  constructor
  · rintro h ⟨f, y, hf, hy, hw, hfault⟩
    obtain ⟨hs, hr⟩ := h f y ((hother f hf).trans hy) hw
    rcases hfault with hfault | hfault
    · simp [hy, isStranded, hs] at hfault
    · simp [hr] at hfault
  · intro h f y hy hw
    by_cases hf : f = e
    · subst hf
      exact he y hy
    · rw [hother f hf] at hy
      have hno : ¬ (y.body.isStranded = true ∨ y.retry = true) := fun hfault =>
        h ⟨f, y, hf, hy, hw, by rw [hy]; exact hfault⟩
      simpa using hno

/-- What the success of entry `e`'s retry makes of its window (R157): it resumes where no other entry is STRANDED or under
retry. `u` is the state that the return of the transaction leaves. -/
theorem State.faultExit_recovered {rs : Resume} (hwin : u.windows = s.windows) (hst : (s.window w).state = .fault rs)
    (hother : ∀ f, f ≠ e → u.entry f = s.entry f) (he : recovered (u.entry e)) :
    (s.othersFaulted w e → u.faultExit w = u) ∧ (¬ s.othersFaulted w e → u.faultExit w = u.resumed w rs) ∧
      (∀ y, (u.faultExit w).entry e = some y → y.retry = false ∧ y.failedOp = none) ∧
      (s.othersFaulted w e → ((u.faultExit w).window w).state = .fault rs) ∧
      (¬ s.othersFaulted w e → ((u.faultExit w).window w).state = rs.winState) := by
  have hfault : (u.window w).state = .fault rs := by
    rw [State.window, hwin]
    exact hst
  have hcount := State.strandedCount_recovered (w := w) hother he
  have hstays : s.othersFaulted w e → u.faultExit w = u := fun ho => by
    rw [State.faultExit_of_fault hfault, if_neg fun h => hcount.mp h ho]
  have hleaves : ¬ s.othersFaulted w e → u.faultExit w = u.resumed w rs := fun ho => by
    rw [State.faultExit_of_fault hfault, if_pos (hcount.mpr ho)]
  refine ⟨hstays, hleaves, fun y hy => ?_, fun ho => by rw [hstays ho]; exact hfault,
    fun ho => by rw [hleaves ho]; exact State.resumed_window u w rs⟩
  have hrec : recovered ((u.faultExit w).entry e) := by
    by_cases ho : s.othersFaulted w e
    · rw [hstays ho]
      exact he
    · rw [hleaves ho]
      exact State.resumed_recovered he w rs
  obtain ⟨hs, hr⟩ := hrec y hy
  exact ⟨hr, Entry.failedOp_of_recovered hs hr⟩

/-! ### The response of a table transaction (R122) -/

theorem State.arrive_table {g : Tag} {r : TagRecord} (hg : s.tagAt g = some r) (ho : r.owner = .table e)
    (hsoft : s.softInterval = false) (data : BitVec 512) :
    s.arrive g true data = match r.kind with
      | .read => (s.setTag g none).fetchOk e (responseValue data r.size)
      | .write => (s.setTag g none).writeOk e := by
  have hs : (s.setTag g none).softInterval = false := hsoft
  rcases s.arrive_cases g true data with ⟨hnone, -⟩ | ⟨r', hr', h⟩
  · simp [hg] at hnone
  · cases hg.symm.trans hr'
    rcases h with ⟨id, link, hp, -⟩ | ⟨f, hf, h⟩ | ⟨k, hk, -⟩
    · simp [ho] at hp
    · cases ho.symm.trans hf
      rw [h, State.tableResponse, if_neg (by simp [hs])]
      rfl
    · simp [ho] at hk

theorem State.retrySucceeded_of_retry {x : Entry} (h : x.retry = true) : s.retrySucceeded x = s.faultExit x.window :=
  if_pos h

theorem State.retrySucceeded_of_not_retry {x : Entry} (h : x.retry = false) : s.retrySucceeded x = s :=
  if_neg (by simp [h])

theorem State.writeOk_eq {x : Entry} (hx : s.entry e = some x) : s.writeOk e = (s.written e).retrySucceeded x := by
  simp only [State.writeOk, hx]

theorem State.fetchOk_eq {x : Entry} (hx : s.entry e = some x) (m : Nat) :
    s.fetchOk e m = (s.fetched e m).retrySucceeded x := by
  simp only [State.fetchOk, hx]

/-! ### Write-back returns (R89) -/

/-- The return of the write-back of an entry, by the redirty mark and the drain of its window. -/
theorem State.written_eq {x : Entry} {v : Nat} {redirty : Bool} (hx : s.entry e = some x) (hb : x.body = .write v redirty) :
    s.written e =
      (let x1 := { x with flushAll := redirty && decide (e ∈ s.carry), retry := false }
       let t := { s with carry := s.carry.filter (fun y => decide (y ≠ e)) }
       if redirty then
         let u := t.setEntry e (some { x1 with body := .held v true })
         { u with dirty := u.insertByAge e s.dirty }
       else if s.draining x.window then t.freeEntry e
       else (t.setEntry e (some { x1 with body := .held v false, lastUse := s.tick })).joinClean e) := by
  simp only [State.written, hx, hb]
  rfl

/-- What a write-back return keeps, and what it leaves of the entry in any case. -/
theorem State.written_keeps {x : Entry} {v : Nat} {redirty : Bool} (hx : s.entry e = some x)
    (hb : x.body = .write v redirty) :
    (s.written e).windows = s.windows ∧ (∀ f, f ≠ e → (s.written e).entry f = s.entry f) ∧
      recovered ((s.written e).entry e) ∧ e ∉ (s.written e).carry := by
  have hset : ∀ (t : State) (o : Option Entry), t.entries = s.entries.set e.val o e.isLt →
      (∀ f, f ≠ e → t.entry f = s.entry f) ∧ t.entry e = o := fun t o ht =>
    ⟨fun f hf => (State.entry_of_entries (s := s.setEntry e o) ht f).trans (State.entry_setEntry_ne s hf.symm o),
      (State.entry_of_entries (s := s.setEntry e o) ht e).trans (State.entry_setEntry_same s e o)⟩
  suffices h : ∃ o, (s.written e).entries = s.entries.set e.val o e.isLt ∧ recovered o ∧
      (s.written e).windows = s.windows ∧ e ∉ (s.written e).carry by
    obtain ⟨o, ho, hrec, hwin, hcarry⟩ := h
    obtain ⟨hother, he⟩ := hset _ o ho
    exact ⟨hwin, hother, he ▸ hrec, hcarry⟩
  rw [State.written_eq hx hb]
  dsimp only
  split
  · exact ⟨_, rfl, recovered_some rfl rfl, rfl, by simp [State.setEntry]⟩
  · split
    · exact ⟨none, rfl, recovered_none, rfl, by simp [State.freeEntry]⟩
    · exact ⟨_, rfl, recovered_some rfl rfl, rfl, by simp [State.joinClean, State.setEntry]⟩

end Sys2Proof.Machine

open Sys2Proof Sys2Proof.Machine

/-- Settles O29: the three ends of a write-back return, and the window's exit from FAULT at a retry's success. -/
theorem writeBackReturns : Obligations.WriteBackReturns := by
  refine ⟨fun s g r e hg ho hk hsoft => ?_, fun s e x v redirty hx hb => ?_, fun s e x hx hr => ?_,
    fun s e x v redirty rs hx hb hr hst => ?_⟩
  · refine next_finish_congr ((State.arrive_table hg ho hsoft 0).trans ?_) s
    rw [hk]
  · obtain ⟨-, hother, -, hcarry⟩ := State.written_keeps hx hb
    have hw := State.written_eq hx hb
    refine ⟨fun hr => ?_, fun hr hd => ?_, fun hr hd => ?_, hother, hcarry⟩ <;> subst hr <;> rw [hw] <;> dsimp only
    · rw [if_pos rfl, Bool.true_and]
      exact ⟨State.entry_setEntry_same _ e _, State.insertByAge_joins _ e s.dirty⟩
    · rw [if_neg (by decide), if_pos hd]
      exact State.entry_setEntry_same _ e none
    · rw [if_neg (by decide), if_neg (by simp [hd])]
      exact ⟨State.entry_setEntry_same _ e _, rfl⟩
  · rw [State.writeOk_eq hx, State.retrySucceeded_of_not_retry hr]
  · obtain ⟨hwin, hother, hrec, -⟩ := State.written_keeps hx hb
    rw [State.writeOk_eq hx, State.retrySucceeded_of_retry hr]
    obtain ⟨hstay, hleave, hentry, hfault, hstate⟩ := State.faultExit_recovered hwin hst hother hrec
    exact ⟨hstay, hleave, hentry, hfault, fun ho => (hstate ho).trans (by cases rs <;> rfl)⟩

end

section
/-!
SUPPORT. The waiters of a fetch return one by one (R86): what each makes of a record, of a latch, of a capture slot and of
the alert queue, and what the list makes of them.
-/

namespace Sys2Proof.Machine

variable {c : WinConfig} {clear : Bool} {w : WinNo} {i : Nat}

/-! ### A part of the state under a list of waiters -/

/-- What a list of waiters makes of a part of the state, where `step v y` is what waiter `y` makes of it on finding the
value `v`. -/
def waiterFold {α : Type} (c : WinConfig) (clear : Bool) (step : Nat → Waiter → α → α) : Nat → List Waiter → α → α
  | _, [], p => p
  | v, y :: ys, p => waiterFold c clear step (waiterValue c clear v y) ys (step v y p)

/-- The waiters of a fetch return treat a part of the state as each of them does. -/
theorem foldl_applyWaiter_part {α : Type} {part : State → α} {step : Nat → Waiter → α → α}
    (hstep : ∀ (a : WaiterRun) (y : Waiter), part (applyWaiter c w i a y).st = step a.v y (part a.st)) (ws : List Waiter)
    (a : WaiterRun) :
    part (ws.foldl (applyWaiter c w i) a).st = waiterFold c a.st.clearing step a.v ws (part a.st) := by
  induction ws generalizing a with
  | nil => rfl
  | cons y ys ih =>
    rw [List.foldl_cons, ih, waiterFold, hstep, applyWaiter_v, State.clearing_of_waiterView (applyWaiter_waiterView ..)]

section
variable {α : Type} {step : Nat → Waiter → α → α} {p q : α}

theorem waiterFold_append (v : Nat) (as bs : List Waiter) (p : α) :
    waiterFold c clear step v (as ++ bs) p =
      waiterFold c clear step (as.foldl (waiterValue c clear) v) bs (waiterFold c clear step v as p) := by
  induction as generalizing v p with
  | nil => rfl
  | cons y ys ih => exact ih _ _

/-- Waiters that do not touch a part leave it. -/
theorem waiterFold_miss {ws : List Waiter} (h : ∀ y ∈ ws, ∀ v, step v y p = p) (v : Nat) :
    waiterFold c clear step v ws p = p := by
  induction ws generalizing v with
  | nil => rfl
  | cons y ys ih =>
    rw [waiterFold, h y List.mem_cons_self]
    exact ih (fun z hz => h z (List.mem_cons_of_mem y hz)) _

/-- A part that one waiter alone touches stands as that waiter left it. -/
theorem waiterFold_hit {as bs : List Waiter} {y : Waiter} {v : Nat} (hbefore : ∀ z ∈ as, ∀ u, step u z p = p)
    (hstep : step (as.foldl (waiterValue c clear) v) y p = q) (hafter : ∀ z ∈ bs, ∀ u, step u z q = q) :
    waiterFold c clear step v (as ++ y :: bs) p = q := by
  rw [waiterFold_append, waiterFold_miss hbefore, waiterFold, hstep, waiterFold_miss hafter]

/-- The first waiter that touches a part, the `k`-th, finds the value that those before it left. -/
theorem waiterFold_first {ws : List Waiter} {k : Nat} {y : Waiter} {v : Nat} (hk : ws[k]? = some y)
    (hbefore : ∀ j, j < k → ∀ z, ws[j]? = some z → ∀ u, step u z p = p)
    (hstep : step (valueBefore c clear v ws k) y p = q) (hafter : ∀ z u, step u z q = q) :
    waiterFold c clear step v ws p = q := by
  obtain ⟨hlt, hget⟩ := List.getElem?_eq_some_iff.mp hk
  have hsplit : ws = ws.take k ++ y :: ws.drop (k + 1) := by
    rw [← hget, ← List.drop_eq_getElem_cons hlt, List.take_append_drop]
  rw [hsplit]
  refine waiterFold_hit (fun z hz u => ?_) hstep fun z _ u => hafter z u
  obtain ⟨j, hj, rfl⟩ := List.mem_take_iff_getElem.mp hz
  have hjk : j < k := by omega
  exact hbefore j hjk _ (List.getElem?_eq_getElem (by omega)) u

theorem waiterFold_map {step : Nat → Waiter → α → α} (v : Nat) (ws : List Waiter) (ps : List α) :
    waiterFold c clear (fun v y ps => ps.map (step v y)) v ws ps = ps.map (waiterFold c clear step v ws) := by
  induction ws generalizing v ps with
  | nil => exact (List.map_id ps).symm
  | cons y ys ih =>
    rw [waiterFold, ih, List.map_map]
    rfl

end

/-! ### Records (R50, R55) -/

/-- What a waiter makes of a record of ID `id`. -/
def recordStep (id : UpId) (v : Nat) (y : Waiter) (r : Record) : Record :=
  match y with
  | .op o j link =>
    if (j = id ∧ o.kind.isPosted = false) ∧ (r.takesResult link && r.answer.isNone) = true then
      { r with answer := some { status := .done, data := laneBytes v r.lane r.size } }
    else r
  | .capture _ => r

theorem State.records_reportValue (s : State) (j id : UpId) (key v : Nat) :
    ((s.reportValue j key v).list id).records = if j = id then answerRecords (Record.takesResult key)
      (fun r => { status := .done, data := laneBytes v r.lane r.size }) (s.list id).records else (s.list id).records := by
  have hset : (s.reportValue j key v).list id = (s.setList j { s.list j with
      records := answerRecords (Record.takesResult key)
        (fun r => { status := .done, data := laneBytes v r.lane r.size }) (s.list j).records }).list id := by
    unfold State.reportValue
    dsimp only
    split
    · split <;> rfl
    all_goals rfl
  rw [hset, State.list_setList]
  split
  · subst_vars
    rfl
  · rfl

theorem State.list_of_upstream {s t : State} (h : t.upstream = s.upstream) (id : UpId) : t.list id = s.list id := by
  have hl : t.lists = s.lists := congrArg (fun q => q.1) h
  rw [State.list, hl]
  rfl

theorem records_applyWaiter (id : UpId) (a : WaiterRun) (y : Waiter) :
    ((applyWaiter c w i a y).st.list id).records = (a.st.list id).records.map (recordStep id a.v y) := by
  have hraise : ∀ ks, (a.st.raise w i ks).list id = a.st.list id := fun ks =>
    State.list_of_upstream (State.raise_upstream ..) id
  cases y with
  | op o j link =>
    simp only [applyWaiter]
    by_cases hp : o.kind.isPosted = true
    · have hsame : recordStep id a.v (.op o j link) = fun r => r := funext fun r => if_neg (by simp [hp])
      rw [if_pos hp, hraise, hsame, List.map_id']
    · rw [if_neg hp, State.records_reportValue, hraise]
      by_cases hj : j = id
      · simp [hj, recordStep, hp, answerRecords]
      · have hsame : recordStep id a.v (.op o j link) = fun r => r := funext fun r => if_neg (by simp [hj])
        rw [if_neg hj, hsame, List.map_id']
  | capture k =>
    have hslot : (a.st.slotCaptured k a.v).list id = a.st.list id :=
      State.list_of_upstream (State.slotCaptured_upstream ..) id
    have hsame : recordStep id a.v (.capture k) = fun r => r := rfl
    rw [hsame, List.map_id']
    simp only [applyWaiter]
    split <;> exact congrArg OrderList.records hslot

theorem Record.takesResult_iff {r : Record} {link : Nat} : r.takesResult link = true ↔ r.takes link :=
  decide_eq_true_iff

theorem recordStep_answered {r : Record} (h : r.answer ≠ none) (id : UpId) (v : Nat) (y : Waiter) :
    recordStep id v y r = r := by
  cases y with
  | op o j link => exact if_neg (by simp [h])
  | capture k => rfl

theorem OpKind.isPosted_eq_false {k : OpKind} : k.isPosted = false ↔ k = .read ∨ k = .take := by
  cases k <;> simp [OpKind.isPosted]

/-- A waiter that does not answer a record leaves it. -/
theorem recordStep_miss {ws : List Waiter} {id : UpId} {r : Record} {j : Nat} {z : Waiter} (hz : ws[j]? = some z)
    (h : ¬ answersAt ws id r j) (v : Nat) : recordStep id v z r = r := by
  cases z with
  | op o l link =>
    refine if_neg ?_
    rintro ⟨⟨rfl, hp⟩, htake⟩
    rw [Bool.and_eq_true, Record.takesResult_iff] at htake
    exact h ⟨o, link, hz, OpKind.isPosted_eq_false.mp hp, htake.1⟩
  | capture k => rfl

/-- A record takes the value that the first READ or TAKE whose result it takes finds, and no other record changes. -/
theorem waiterFold_record (v : Nat) (ws : List Waiter) (id : UpId) (r : Record) :
    (∀ k o link, ws[k]? = some (.op o id link) → o.kind = .read ∨ o.kind = .take → r.takes link → r.answer = none →
      (∀ j, j < k → ¬ answersAt ws id r j) →
      waiterFold c clear (recordStep id) v ws r =
        { r with answer := some { status := .done, data := laneBytes (valueBefore c clear v ws k) r.lane r.size } }) ∧
    (r.answer ≠ none ∨ (∀ k, ¬ answersAt ws id r k) → waiterFold c clear (recordStep id) v ws r = r) := by
  refine ⟨fun k o link hk ho ht ha hfirst => ?_, fun h => waiterFold_miss (fun y hy u => ?_) v⟩
  · refine waiterFold_first hk (fun j hj z hz u => recordStep_miss hz (hfirst j hj) u) ?_
      fun z u => recordStep_answered (by simp) id u z
    exact if_pos ⟨⟨rfl, OpKind.isPosted_eq_false.mpr ho⟩, by simp [Record.takesResult_iff.mpr ht, ha]⟩
  · rcases h with h | h
    · exact recordStep_answered h id u y
    · obtain ⟨j, hj⟩ := List.mem_iff_getElem?.mp hy
      exact recordStep_miss hj (h j) u

/-! ### Latches (R55) -/

/-- What the report of a result makes of the latch of its ID. -/
def Latch.reported (key v : Nat) : Latch → Latch
  | .pending w i j src => if src = key then .filled w i j (v / 2 ^ (32 * j)) else .pending w i j src
  | .empty => .empty
  | .filled w i j u => .filled w i j u

/-- What a waiter makes of the latch of ID `id`. -/
def latchStep (id : UpId) (v : Nat) (y : Waiter) (l : Latch) : Latch :=
  match y with
  | .op o j link => if j = id ∧ o.kind.isPosted = false then l.reported link v else l
  | .capture _ => l

theorem State.latch_reportValue (s : State) (j id : UpId) (key v : Nat) :
    (s.reportValue j key v).latch id = if j = id then (s.latch id).reported key v else s.latch id := by
  unfold State.reportValue
  dsimp only
  cases hl : s.latch j with
  | empty | filled =>
    dsimp only
    split
    · subst_vars
      rw [hl]
      exact hl
    · rfl
  | pending u k f src =>
    dsimp only
    by_cases hs : src = key
    · rw [if_pos hs, State.latch_setLatch]
      split
      · subst_vars
        rw [hl, Latch.reported, if_pos rfl]
      · rfl
    · rw [if_neg hs]
      split
      · subst_vars
        rw [hl, Latch.reported, if_neg hs]
        exact hl
      · rfl

theorem State.latch_raise (s : State) (w : WinNo) (i : Nat) (ks : List AlertKind) (id : UpId) :
    (s.raise w i ks).latch id = s.latch id :=
  foldl_keeps (fun t : State => t.latch id) (fun t k => t.raiseOne w i k) (fun _ _ => rfl) ks s

theorem State.latch_slotCaptured (s : State) (k : SlotNo) (v : Nat) (id : UpId) :
    (s.slotCaptured k v).latch id = s.latch id := by
  unfold State.slotCaptured
  split <;> rfl

theorem latch_applyWaiter (id : UpId) (a : WaiterRun) (y : Waiter) :
    (applyWaiter c w i a y).st.latch id = latchStep id a.v y (a.st.latch id) := by
  cases y with
  | op o j link =>
    simp only [applyWaiter, latchStep]
    by_cases hp : o.kind.isPosted = true
    · rw [if_pos hp, State.latch_raise, if_neg (by simp [hp])]
    · rw [if_neg hp, State.latch_reportValue, State.latch_raise]
      simp [hp]
  | capture k =>
    simp only [applyWaiter, latchStep]
    split <;> exact State.latch_slotCaptured ..

/-- The `k`-th waiter of a list is a READ or TAKE of ID `id` whose record is `src`. -/
def sourceAt (ws : List Waiter) (id : UpId) (src k : Nat) : Prop :=
  ∃ o : Operation, ws[k]? = some (.op o id src) ∧ (o.kind = .read ∨ o.kind = .take)

theorem latchStep_miss {ws : List Waiter} {id : UpId} {u : WinNo} {k f src j : Nat} {z : Waiter} (hz : ws[j]? = some z)
    (h : ¬ sourceAt ws id src j) (v : Nat) : latchStep id v z (.pending u k f src) = .pending u k f src := by
  cases z with
  | op o l link =>
    simp only [latchStep]
    split
    · rename_i hl
      obtain ⟨rfl, hp⟩ := hl
      refine if_neg fun hs => ?_
      subst hs
      exact h ⟨o, hz, OpKind.isPosted_eq_false.mp hp⟩
    · rfl
  | capture k => rfl

theorem latchStep_not_pending {l : Latch} (h : ∀ u k j src, l ≠ .pending u k j src) (id : UpId) (v : Nat) (y : Waiter) :
    latchStep id v y l = l := by
  have hrep : ∀ key, l.reported key v = l := fun key => by
    cases l with
    | pending u k j src => exact absurd rfl (h u k j src)
    | _ => rfl
  cases y with
  | op o j link =>
    simp only [latchStep, hrep]
    exact ite_self l
  | capture k => rfl

/-- A latch fills from the value that the first waiter with its source's record finds. -/
theorem waiterFold_latch (v : Nat) (ws : List Waiter) (id : UpId) (u : WinNo) (k j src : Nat) :
    (∀ n, sourceAt ws id src n → (∀ b, b < n → ¬ sourceAt ws id src b) →
      waiterFold c clear (latchStep id) v ws (.pending u k j src) =
        .filled u k j (valueBefore c clear v ws n / 2 ^ (32 * j))) ∧
    ((∀ n, ¬ sourceAt ws id src n) →
      waiterFold c clear (latchStep id) v ws (.pending u k j src) = .pending u k j src) := by
  refine ⟨fun n ⟨o, hn, ho⟩ hfirst => ?_, fun h => waiterFold_miss (fun y hy b => ?_) v⟩
  · refine waiterFold_first hn (fun b hb z hz b' => latchStep_miss hz (hfirst b hb) b') ?_
      fun z b => latchStep_not_pending (by simp) id b z
    exact (if_pos ⟨rfl, OpKind.isPosted_eq_false.mpr ho⟩).trans (if_pos rfl)
  · obtain ⟨b', hb'⟩ := List.mem_iff_getElem?.mp hy
    exact latchStep_miss hb' (h b') b

/-! ### Captures (R138) -/

/-- What a capture of slot `k` makes of the snapshot engine. -/
def Snapshot.taking (p : Snapshot) (k : SlotNo) (v : Nat) : Snapshot :=
  match p.slots[k] with
  | .requested j => { p with
      slots := p.slots.set k.val (.captured j v) k.isLt
      writeOrder := p.writeOrder ++ [k]
      job := if k = 16 then p.job.map (fun b => { b with cursor := b.cursor + 1 }) else p.job }
  | .free | .captured _ _ | .writing _ _ _ => p

theorem State.snap_slotCaptured (s : State) (k : SlotNo) (v : Nat) : (s.slotCaptured k v).snap = s.snap.taking k v := by
  unfold State.slotCaptured Snapshot.taking State.slot
  cases s.snap.slots[k] <;> rfl

/-- What a waiter makes of the snapshot engine. -/
def snapStep (v : Nat) (y : Waiter) (p : Snapshot) : Snapshot :=
  match y with
  | .op _ _ _ => p
  | .capture k => p.taking k v

theorem snap_applyWaiter (a : WaiterRun) (y : Waiter) :
    (applyWaiter c w i a y).st.snap = snapStep a.v y a.st.snap := by
  cases y with
  | op o j link =>
    simp only [applyWaiter, snapStep]
    split <;> simp
  | capture k =>
    simp only [applyWaiter, snapStep]
    split <;> exact State.snap_slotCaptured ..

theorem snapStep_of_not_capture {y : Waiter} (h : isCapture y = false) (v : Nat) (p : Snapshot) : snapStep v y p = p := by
  cases y with
  | op o j link => rfl
  | capture k => cases h

/-- What a waiter makes of capture slot `n`. -/
def slotStep (n : SlotNo) (v : Nat) (y : Waiter) (x : Slot) : Slot :=
  match y, x with
  | .capture k, .requested j => if k = n then .captured j v else .requested j
  | _, x => x

theorem Snapshot.taking_slots (p : Snapshot) (k n : SlotNo) (v : Nat) :
    (p.taking k v).slots[n] = slotStep n v (.capture k) p.slots[n] := by
  unfold Snapshot.taking
  by_cases hk : k = n
  · subst hk
    cases hs : p.slots[k] <;> simp [slotStep, hs]
  · have hne : k.val ≠ n.val := fun h => hk (Fin.ext h)
    have hsame : slotStep n v (.capture k) p.slots[n] = p.slots[n] := by
      cases p.slots[n] <;> simp [slotStep, hk]
    rw [hsame]
    cases p.slots[k] <;> simp [hne]

theorem slot_applyWaiter (n : SlotNo) (a : WaiterRun) (y : Waiter) :
    (applyWaiter c w i a y).st.slot n = slotStep n a.v y (a.st.slot n) := by
  rw [State.slot, snap_applyWaiter]
  cases y with
  | op o j link => cases hs : a.st.slot n <;> exact hs
  | capture k => exact a.st.snap.taking_slots k n a.v

theorem slotStep_captured (n : SlotNo) (j b v : Nat) (y : Waiter) : slotStep n v y (.captured j b) = .captured j b := by
  cases y <;> rfl

/-- A REQUESTED slot takes the value that the first capture for it finds. -/
theorem waiterFold_slot {v : Nat} {ws : List Waiter} {k j : Nat} {n : SlotNo} (hk : ws[k]? = some (.capture n))
    (hfirst : ∀ b, b < k → ws[b]? ≠ some (.capture n)) :
    waiterFold c clear (slotStep n) v ws (.requested j) = .captured j (valueBefore c clear v ws k) := by
  refine waiterFold_first hk (fun b hb z hz u => ?_) (if_pos rfl) fun z u => slotStep_captured n j _ u z
  cases z with
  | op o l link => rfl
  | capture l => exact if_neg fun hl : l = n => hfirst b hb (hl ▸ hz)

/-- A list with one capture makes its slot join the write order. -/
theorem waiterFold_writeOrder {v j : Nat} {ws : List Waiter} {n : SlotNo} {p : Snapshot}
    (hone : ws.filter isCapture = [.capture n]) (hreq : p.slots[n] = .requested j) :
    (waiterFold c clear snapStep v ws p).writeOrder = p.writeOrder ++ [n] := by
  obtain ⟨as, bs, rfl, has, -, hbs⟩ := List.filter_eq_cons_iff.mp hone
  have hno : ∀ z, isCapture z = false → ∀ u q, snapStep u z q = q := fun z hz u q => snapStep_of_not_capture hz u q
  rw [waiterFold_hit (fun z hz u => hno z (by simpa using has z hz) u p) rfl fun z hz u =>
    hno z (by simpa using List.filter_eq_nil_iff.mp hbs z hz) u _]
  simp only [snapStep, Snapshot.taking, hreq]

/-! ### Alerts (R91) -/

/-- The alert queue and its sequence counter. -/
def State.alertQueue (s : State) :=
  (s.alerts, s.alertSeq)

theorem State.raise_alertQueue_congr {s t : State} (h : t.alertQueue = s.alertQueue) (w : WinNo) (i : Nat)
    (ks : List AlertKind) : (t.raise w i ks).alertQueue = (s.raise w i ks).alertQueue := by
  induction ks generalizing s t with
  | nil => exact h
  | cons k ks ih =>
    have ha : t.alerts = s.alerts := congrArg (fun q => q.1) h
    have hq : t.alertSeq = s.alertSeq := congrArg (fun q => q.2) h
    refine ih (s := s.raiseOne w i k) (t := t.raiseOne w i k) ?_
    simp only [State.alertQueue, State.raiseOne, ha, hq]

theorem State.raise_append (s : State) (w : WinNo) (i : Nat) (ks ls : List AlertKind) :
    s.raise w i (ks ++ ls) = (s.raise w i ks).raise w i ls := List.foldl_append

theorem State.reportValue_alertQueue (s : State) (id : UpId) (key v : Nat) :
    (s.reportValue id key v).alertQueue = s.alertQueue := by
  unfold State.reportValue
  repeat' split
  all_goals rfl

theorem State.slotCaptured_alertQueue (s : State) (k : SlotNo) (v : Nat) :
    (s.slotCaptured k v).alertQueue = s.alertQueue := by
  unfold State.slotCaptured
  split <;> rfl

/-- The outcomes of one waiter that finds the value `v` (R91). -/
def waiterOutcome (c : WinConfig) (v : Nat) : Waiter → List AlertKind
  | .op o _ _ => applyOutcomes c o v
  | .capture _ => []

theorem waiterOutcomes_cons (v : Nat) (y : Waiter) (ys : List Waiter) :
    waiterOutcomes c clear v (y :: ys) =
      waiterOutcome c v y ++ waiterOutcomes c clear (waiterValue c clear v y) ys := by
  cases y <;> rfl

/-- The waiters raise their outcomes in order, each judged from the value it finds. -/
theorem foldl_applyWaiter_alertQueue (ws : List Waiter) (a : WaiterRun) :
    (ws.foldl (applyWaiter c w i) a).st.alertQueue =
      (a.st.raise w i (waiterOutcomes c a.st.clearing a.v ws)).alertQueue := by
  induction ws generalizing a with
  | nil => rfl
  | cons y ys ih =>
    rw [List.foldl_cons, ih, applyWaiter_v, State.clearing_of_waiterView (applyWaiter_waiterView ..),
      waiterOutcomes_cons, State.raise_append]
    refine State.raise_alertQueue_congr ?_ w i _
    cases y with
    | op o id link =>
      simp only [applyWaiter]
      split
      · rfl
      · exact State.reportValue_alertQueue ..
    | capture k =>
      simp only [applyWaiter]
      split <;> exact State.slotCaptured_alertQueue ..

/-! ### Changes and clearings (R87) -/

theorem applyWaiter_changed (a : WaiterRun) (y : Waiter) :
    (applyWaiter c w i a y).changed = true ↔ a.changed = true ∨ waiterValue c a.st.clearing a.v y ≠ a.v := by
  cases y with
  | op o id link => simp [applyWaiter, waiterValue]
  | capture k =>
    simp only [applyWaiter, waiterValue]
    split
    · rw [Bool.or_eq_true, decide_eq_true_eq, ne_comm]
    · simp

theorem foldl_applyWaiter_changed (ws : List Waiter) (a : WaiterRun) :
    (ws.foldl (applyWaiter c w i) a).changed = true ↔ a.changed = true ∨
      ∃ k, k < ws.length ∧ valueBefore c a.st.clearing a.v ws (k + 1) ≠ valueBefore c a.st.clearing a.v ws k := by
  induction ws generalizing a with
  | nil => simp
  | cons y ys ih =>
    rw [List.foldl_cons, ih, applyWaiter_v, State.clearing_of_waiterView (applyWaiter_waiterView ..), applyWaiter_changed,
      or_assoc]
    refine or_congr_right ?_
    constructor
    · rintro (h | ⟨k, hk, h⟩)
      · exact ⟨0, by simp, h⟩
      · exact ⟨k + 1, by simpa using hk, h⟩
    · rintro ⟨k, hk, h⟩
      cases k with
      | zero => exact .inl h
      | succ k => exact .inr ⟨k, by simpa using hk, h⟩

theorem foldl_applyWaiter_cleared (ws : List Waiter) (a : WaiterRun) :
    (ws.foldl (applyWaiter c w i) a).cleared = (a.cleared || (a.st.clearing && ws.any isCapture)) := by
  induction ws generalizing a with
  | nil => simp
  | cons y ys ih =>
    rw [List.foldl_cons, ih, State.clearing_of_waiterView (applyWaiter_waiterView ..)]
    cases y with
    | op o id link => simp [applyWaiter, isCapture]
    | capture k => cases hc : a.st.clearing <;> simp [applyWaiter, isCapture, hc]

end Sys2Proof.Machine
end

section
/-!
SUPPORT. What a fetch return leaves of the entry, the lists, the latches, the slots and the alerts (R85 to R87).
-/

namespace Sys2Proof.Machine

variable {s : State} {e : EntryNo} {x : Entry} {d m : Nat} {marked : Bool} {q : FetchCause}

/-! ### The run -/

/-- The value that the `k`-th waiter of a fetch return finds. -/
def State.found (s : State) (x : Entry) (d m k : Nat) : Nat :=
  valueBefore (s.config x.window) s.clearing (runValue (s.config x.window) d m) x.waiters k

/-- The gathered delta or a waiter changes the value (R87). -/
def State.changes (s : State) (x : Entry) (d m : Nat) : Prop :=
  d ≠ 0 ∨ ∃ k, k < x.waiters.length ∧ s.found x d m (k + 1) ≠ s.found x d m k

/-- The state of the run after the blind adds. -/
def State.runStart (s : State) (x : Entry) (d : Nat) (marked : Bool) (m : Nat) : WaiterRun where
  st := s.raise x.window x.index (runOutcomes (s.config x.window) d marked m)
  v := runValue (s.config x.window) d m
  changed := false
  cleared := false

theorem State.runWaiters_eq (s : State) (x : Entry) (d : Nat) (marked : Bool) (m : Nat) :
    s.runWaiters x d marked m =
      x.waiters.foldl (applyWaiter (s.config x.window) x.window x.index) (s.runStart x d marked m) := rfl

theorem State.runStart_clearing (s : State) (x : Entry) (d : Nat) (marked : Bool) (m : Nat) :
    (s.runStart x d marked m).st.clearing = s.clearing :=
  State.clearing_of_waiterView (State.waiterView_raise ..)

theorem State.runWaiters_found (s : State) (x : Entry) (d : Nat) (marked : Bool) (m : Nat) :
    (s.runWaiters x d marked m).v = s.found x d m x.waiters.length := by
  rw [State.runWaiters_v, State.found, valueBefore, List.take_length]

theorem State.runWaiters_changes (s : State) (x : Entry) (d : Nat) (marked : Bool) (m : Nat) :
    (decide (d ≠ 0) || (s.runWaiters x d marked m).changed) = true ↔ s.changes x d m := by
  rw [Bool.or_eq_true, decide_eq_true_eq, State.runWaiters_eq, foldl_applyWaiter_changed, State.runStart_clearing]
  exact or_congr_right (or_iff_right Bool.false_ne_true)

theorem State.runWaiters_cleared (s : State) (x : Entry) (d : Nat) (marked : Bool) (m : Nat) :
    (s.runWaiters x d marked m).cleared = (s.clearing && x.waiters.any isCapture) := by
  rw [State.runWaiters_eq, foldl_applyWaiter_cleared, State.runStart_clearing]
  exact Bool.false_or _

/-- The run treats a part of the state that alerts leave alone as each waiter does. -/
theorem State.runWaiters_part {α : Type} {part : State → α} {step : Nat → Waiter → α → α} (s : State) (x : Entry) (d : Nat)
    (marked : Bool) (m : Nat) (hraise : ∀ t w i ks, part (State.raise t w i ks) = part t)
    (hstep : ∀ (a : WaiterRun) (y : Waiter),
      part (applyWaiter (s.config x.window) x.window x.index a y).st = step a.v y (part a.st)) :
    part (s.runWaiters x d marked m).st =
      waiterFold (s.config x.window) s.clearing step (runValue (s.config x.window) d m) x.waiters (part s) := by
  rw [State.runWaiters_eq, foldl_applyWaiter_part hstep, State.runStart_clearing]
  exact congrArg _ (hraise s _ _ _)

/-- The dirty list, the issue queue and the tick count. -/
def State.queues (s : State) :=
  (s.dirty, s.issue, s.tick)

theorem State.raise_queues (s : State) (w : WinNo) (i : Nat) (ks : List AlertKind) : (s.raise w i ks).queues = s.queues :=
  foldl_keeps State.queues (fun t k => t.raiseOne w i k) (fun _ _ => rfl) ks s

theorem applyWaiter_queues (c : WinConfig) (w : WinNo) (i : Nat) (a : WaiterRun) (y : Waiter) :
    (applyWaiter c w i a y).st.queues = a.st.queues := by
  have hreport : ∀ (t : State) id key v, (t.reportValue id key v).queues = t.queues := fun t id key v => by
    unfold State.reportValue
    repeat' split
    all_goals rfl
  have hslot : ∀ (t : State) k v, (t.slotCaptured k v).queues = t.queues := fun t k v => by
    unfold State.slotCaptured
    split <;> rfl
  cases y with
  | op o id link =>
    simp only [applyWaiter]
    split
    · exact State.raise_queues ..
    · exact (hreport ..).trans (State.raise_queues ..)
  | capture k =>
    simp only [applyWaiter]
    split <;> exact hslot ..

theorem State.runWaiters_queues (s : State) (x : Entry) (d : Nat) (marked : Bool) (m : Nat) :
    (s.runWaiters x d marked m).st.queues = s.queues :=
  (foldl_keeps (fun a : WaiterRun => a.st.queues) _ (fun a y => applyWaiter_queues _ _ _ a y) x.waiters _).trans
    (State.raise_queues ..)

/-! ### The entry's settling -/

theorem State.fetched_eq (hx : s.entry e = some x) (hb : x.body = .fetch d marked q)
    (hm : m < (s.config x.window).width.modulus) :
    s.fetched e m =
      (let r := s.runWaiters x d marked m
       r.st.settleFetched e x q r.v (decide (d ≠ 0) || r.changed) r.cleared) := by
  simp only [State.fetched, hx, hb, Nat.mod_eq_of_lt hm]

theorem State.fetched_mod (hx : s.entry e = some x) (m : Nat) :
    s.fetched e m = s.fetched e (m % (s.config x.window).width.modulus) := by
  simp only [State.fetched, hx, Nat.mod_mod]

/-- The settling touches neither the records, the latches, the snapshot engine nor the alerts. -/
theorem State.settleFetched_keeps (s : State) (e : EntryNo) (x : Entry) (q : FetchCause) (v : Nat) (dirty cleared : Bool) :
    let t := s.settleFetched e x q v dirty cleared
    t.lists = s.lists ∧ t.latches = s.latches ∧ t.snap = s.snap ∧ t.alertQueue = s.alertQueue := by
  unfold State.settleFetched
  dsimp only
  split
  · split <;> exact ⟨rfl, rfl, rfl, rfl⟩
  · split <;> exact ⟨rfl, rfl, rfl, rfl⟩

/-- A part of the state that the settling leaves stands as the run's waiters left it. -/
theorem State.fetched_run (hx : s.entry e = some x) (hb : x.body = .fetch d marked q)
    (hm : m < (s.config x.window).width.modulus) :
    let r := (s.runWaiters x d marked m).st
    (∀ id, (s.fetched e m).list id = r.list id) ∧ (∀ id, (s.fetched e m).latch id = r.latch id) ∧
      (s.fetched e m).snap = r.snap ∧ (s.fetched e m).alertQueue = r.alertQueue := by
  rw [State.fetched_eq hx hb hm]
  obtain ⟨hlists, hlatches, hsnap, halerts⟩ := (s.runWaiters x d marked m).st.settleFetched_keeps e x q
    (s.runWaiters x d marked m).v (decide (d ≠ 0) || (s.runWaiters x d marked m).changed) (s.runWaiters x d marked m).cleared
  refine ⟨fun id => ?_, fun id => ?_, hsnap, halerts⟩
  · rw [State.list, hlists]
    rfl
  · rw [State.latch, hlatches]
    rfl

/-- The entry with its waiters gone, and its work dated from a capture that cleared it (R70, R87). -/
def State.settledEntry (s : State) (x : Entry) : Entry :=
  { x with
    waiters := []
    captureRequested := false
    retry := false
    dirtySince := if s.clearing && x.waiters.any isCapture then some (x.dirtySince.getD s.tick) else x.dirtySince }

/-- Without waiters and out of a retry only the capture mark goes. -/
theorem State.settledEntry_of_idle (hws : x.waiters = []) (hr : x.retry = false) :
    s.settledEntry x = { x with captureRequested := false } := by
  cases x
  subst hws hr
  simp [State.settledEntry]

theorem State.settleFetched_clean (s : State) (e : EntryNo) (x : Entry) (q : FetchCause) (v : Nat) (cleared : Bool) :
    s.settleFetched e x q v false cleared = if s.draining x.window then s.freeEntry e
      else (s.setEntry e (some { x with
        waiters := [], captureRequested := false, retry := false, body := .held v false, dirtySince := none
        flushAll := false, lastUse := s.tick })).joinClean e := rfl

theorem State.settleFetched_write {v : Nat} {cleared : Bool}
    (h : (decide (q = .flush) || x.flushAll || s.draining x.window) = true) :
    s.settleFetched e x q v true cleared = { s.setEntry e (some { x with
        waiters := [], captureRequested := false, retry := false, body := .write v false
        dirtySince := if cleared then s.stamp x else x.dirtySince }) with issue := s.issue ++ [e] } :=
  if_pos h

theorem State.settleFetched_hold {v : Nat} {cleared : Bool}
    (h : (decide (q = .flush) || x.flushAll || s.draining x.window) = false) :
    s.settleFetched e x q v true cleared =
      (let t := s.setEntry e (some { x with
        waiters := [], captureRequested := false, retry := false, body := .held v true
        dirtySince := if cleared then s.stamp x else x.dirtySince })
       { t with dirty := t.insertByAge e s.dirty }) :=
  if_neg (by simp [h])

/-- What a fetch return leaves of its entry and of the lists (R87). -/
theorem State.fetched_settles (hx : s.entry e = some x) (hb : x.body = .fetch d marked q)
    (hm : m < (s.config x.window).width.modulus) :
    let t := s.fetched e m
    let v := s.found x d m x.waiters.length
    (¬ s.changes x d m → s.draining x.window = false →
      t.entry e = some { s.settledEntry x with body := .held v false, dirtySince := none, lastUse := s.tick
                                               flushAll := false } ∧
        t.clean = s.clean.filter (fun y => decide (y ≠ e)) ++ [e]) ∧
    (¬ s.changes x d m → s.draining x.window = true → t.entry e = none) ∧
    (s.changes x d m → q = .flush ∨ x.flushAll = true ∨ s.draining x.window = true →
      t.entry e = some { s.settledEntry x with body := .write v false } ∧ t.issue = s.issue ++ [e] ∧ t.dirty = s.dirty) ∧
    (s.changes x d m → q = .resolve → x.flushAll = false → s.draining x.window = false →
      t.entry e = some { s.settledEntry x with body := .held v true } ∧ t.joinsByAge e s.dirty t.dirty ∧
        t.issue = s.issue) := by
  have hview := s.runWaiters_waiterView x d marked m
  have hqueues := s.runWaiters_queues x d marked m
  rw [State.fetched_eq hx hb hm]
  dsimp only
  rw [State.runWaiters_found, State.runWaiters_cleared]
  rw [← s.runWaiters_changes x d marked m]
  generalize (s.runWaiters x d marked m).st = r at hview hqueues
  generalize (decide (d ≠ 0) || (s.runWaiters x d marked m).changed) = dirty
  have hdrain : ∀ w, r.draining w = s.draining w := fun w => by
    unfold State.draining State.window
    rw [State.windows_of_waiterView hview]
  obtain ⟨hdirty, hissue, htick⟩ : r.dirty = s.dirty ∧ r.issue = s.issue ∧ r.tick = s.tick := by
    simpa only [State.queues, Prod.mk.injEq] using hqueues
  have hclean := State.clean_of_waiterView hview
  refine ⟨fun hno hdr => ?_, fun hno hdr => ?_, fun hyes hwant => ?_, fun hyes hq hf hdr => ?_⟩
  · obtain rfl : dirty = false := by simpa using hno
    rw [State.settleFetched_clean, if_neg (by simp [hdrain, hdr]), ← hclean, htick]
    exact ⟨State.entry_setEntry_same r e _, rfl⟩
  · obtain rfl : dirty = false := by simpa using hno
    rw [State.settleFetched_clean, if_pos (by rw [hdrain, hdr])]
    exact State.entry_setEntry_same r e none
  · subst hyes
    have hgo : (decide (q = .flush) || x.flushAll || r.draining x.window) = true := by
      simpa [hdrain, or_assoc] using hwant
    rw [State.settleFetched_write hgo, State.stamp, htick]
    exact ⟨State.entry_setEntry_same r e _, congrArg (· ++ [e]) hissue, hdirty⟩
  · subst hyes
    have hstay : (decide (q = .flush) || x.flushAll || r.draining x.window) = false := by
      simp [hdrain, hq, hf, hdr]
    rw [State.settleFetched_hold hstay, State.stamp, htick, hdirty]
    exact ⟨State.entry_setEntry_same r e _, State.insertByAge_joins _ e s.dirty, hissue⟩

/-- A fetch return leaves the windows and every other entry, and its own entry neither STRANDED nor under retry. -/
theorem State.fetched_keeps (hx : s.entry e = some x) (hb : x.body = .fetch d marked q)
    (hm : m < (s.config x.window).width.modulus) :
    (s.fetched e m).windows = s.windows ∧ (∀ f, f ≠ e → (s.fetched e m).entry f = s.entry f) ∧
      recovered ((s.fetched e m).entry e) := by
  have hrewrite : ∃ o, s.RewritesEntry (s.fetched e m) e o := by
    rcases State.fetched_rewrites hx hb hm with ⟨h, -⟩ | ⟨y, h, -⟩ <;> exact ⟨_, h⟩
  obtain ⟨o, ho⟩ := hrewrite
  refine ⟨ho.windows, fun f hf => ho.entry_ne hf, ?_⟩
  obtain ⟨hclean, hfree, hwrite, hhold⟩ := State.fetched_settles hx hb hm
  by_cases hch : s.changes x d m
  · by_cases hwant : q = .flush ∨ x.flushAll = true ∨ s.draining x.window = true
    · rw [(hwrite hch hwant).1]
      exact recovered_some rfl rfl
    · obtain ⟨hq, hf, hd⟩ := by simpa only [not_or, Bool.not_eq_true] using hwant
      have hresolve : q = .resolve := by
        cases q with
        | resolve => rfl
        | flush => exact absurd rfl hq
      rw [(hhold hch hresolve hf hd).1]
      exact recovered_some rfl rfl
  · cases hd : s.draining x.window with
    | true =>
      rw [hfree hch hd]
      exact recovered_none
    | false =>
      rw [(hclean hch hd).1]
      exact recovered_some rfl rfl

/-- What a fetch return's waiters make of the records, the slots, the latches and the alerts. -/
theorem State.fetched_parts (hx : s.entry e = some x) (hb : x.body = .fetch d marked q)
    (hm : m < (s.config x.window).width.modulus) :
    let c := s.config x.window
    let v0 := runValue c d m
    (∀ id, ((s.fetched e m).list id).records =
      (s.list id).records.map (waiterFold c s.clearing (recordStep id) v0 x.waiters)) ∧
    (∀ n, (s.fetched e m).slot n = waiterFold c s.clearing (slotStep n) v0 x.waiters (s.slot n)) ∧
    (s.fetched e m).snap = waiterFold c s.clearing snapStep v0 x.waiters s.snap ∧
    (∀ id, (s.fetched e m).latch id = waiterFold c s.clearing (latchStep id) v0 x.waiters (s.latch id)) ∧
    (s.fetched e m).alertQueue =
      (s.raise x.window x.index (runOutcomes c d marked m ++ waiterOutcomes c s.clearing v0 x.waiters)).alertQueue := by
  obtain ⟨hlist, hlatch, hsnap, halerts⟩ := State.fetched_run hx hb hm
  refine ⟨fun id => ?_, fun n => ?_, ?_, fun id => ?_, ?_⟩
  · rw [hlist, ← waiterFold_map]
    exact s.runWaiters_part (part := fun t => (t.list id).records) x d marked m
      (fun t w i ks => congrArg OrderList.records (State.list_of_upstream (State.raise_upstream ..) id))
      fun a y => records_applyWaiter id a y
  · have hslot : (s.fetched e m).slot n = (s.runWaiters x d marked m).st.slot n := by
      rw [State.slot, hsnap]
      rfl
    rw [hslot]
    exact s.runWaiters_part (part := fun t => t.slot n) x d marked m
      (fun t w i ks => State.slot_of_slots (congrArg Snapshot.slots (t.snap_raise w i ks)) n) fun a y => slot_applyWaiter n a y
  · rw [hsnap]
    exact s.runWaiters_part (part := State.snap) x d marked m State.snap_raise fun a y => snap_applyWaiter a y
  · rw [hlatch]
    exact s.runWaiters_part (part := fun t => t.latch id) x d marked m (fun t w i ks => t.latch_raise w i ks id)
      fun a y => latch_applyWaiter id a y
  · rw [halerts, State.runWaiters_eq, foldl_applyWaiter_alertQueue, State.runStart_clearing, State.raise_append]
    rfl

end Sys2Proof.Machine

open Sys2Proof Sys2Proof.Machine

/-- Settles O28: the run's value passes through the waiters (`waiterFold`), the entry settles by what they changed, and at
a retry's success the window leaves FAULT. -/
theorem fetchReturns : Obligations.FetchReturns := by
  refine ⟨fun s g r e data hg ho hk hsoft => ?_, fun s e x d m marked q hx hb hws hr hm => ?_,
    fun s e x d m marked q hx hb hm => ?_, fun s e x m hx hr => ?_, fun s e x d m marked q rs hx hb hr hst => ?_⟩
  · refine next_finish_congr ((State.arrive_table hg ho hsoft data).trans ?_) s
    rw [hk]
    rfl
  · intro t v
    have ht : t = s.fetched e m := by
      rw [← State.retrySucceeded_of_not_retry (s := s.fetched e m) hr]
      exact State.fetchOk_eq hx m
    have hfound : s.found x d m x.waiters.length = v := by
      rw [State.found, hws]
      rfl
    have hchanges : s.changes x d m ↔ d ≠ 0 := by
      rw [State.changes, hws]
      simp
    obtain ⟨hclean, hfree, hwrite, hhold⟩ := State.fetched_settles hx hb hm
    rw [hchanges, hfound, State.settledEntry_of_idle hws hr] at hclean hwrite hhold
    rw [hchanges] at hfree
    rw [ht]
    refine ⟨fun hd hdr => ?_, fun hd => hfree (not_not.mpr hd), hwrite, hhold⟩
    have hv : v = m := by
      rw [← runValue_zero hm, ← hd]
      rfl
    rw [hv] at hclean
    exact hclean (not_not.mpr hd) hdr
  · obtain ⟨hrecords, hslots, hsnap, hlatch, halerts⟩ := State.fetched_parts hx hb hm
    obtain ⟨hclean, hfree, hwrite, hhold⟩ := State.fetched_settles hx hb hm
    obtain ⟨-, hother, -⟩ := State.fetched_keeps hx hb hm
    intro t c v0 found v changed raised settled
    refine ⟨fun id => ?_, fun k n j hk hfirst hreq => ?_, fun hno => ?_, fun n j hone hreq => ?_,
      fun id u k j src hl => ?_, fun id hl => ?_, ⟨congrArg (fun p => p.1) halerts, congrArg (fun p => p.2) halerts⟩,
      hother, hclean, hfree, hwrite, hhold⟩
    · rw [hrecords, List.forall₂_map_right_iff, List.forall₂_same]
      exact fun r _ => waiterFold_record v0 x.waiters id r
    · rw [hslots, hreq]
      exact waiterFold_slot hk hfirst
    · rw [hsnap]
      exact waiterFold_miss (fun y hy u => snapStep_of_not_capture (by simpa using List.any_eq_false.mp hno y hy) u _) v0
    · rw [hsnap]
      exact waiterFold_writeOrder hone hreq
    · rw [hlatch, hl]
      exact waiterFold_latch v0 x.waiters id u k j src
    · rw [hlatch]
      exact waiterFold_miss (fun y _ u => latchStep_not_pending hl id u y) v0
  · rw [State.fetchOk_eq hx, State.retrySucceeded_of_not_retry hr]
  · have hlt : m % (s.config x.window).width.modulus < (s.config x.window).width.modulus :=
      Nat.mod_lt _ (Width.modulus_pos _)
    obtain ⟨hwin, hother, hrec⟩ := State.fetched_keeps hx hb hlt
    rw [State.fetchOk_eq hx, State.retrySucceeded_of_retry hr, State.fetched_mod hx m]
    obtain ⟨hstay, hleave, hentry, hfault, hstate⟩ := State.faultExit_recovered hwin hst hother hrec
    exact ⟨hstay, hleave, hentry, hfault, fun ho => (hstate ho).trans (by cases rs <;> rfl)⟩

end

section
/-!
SUPPORT. The end of a happening: what it never changes, what it leaves done, and that the takings and the grant that fall at
once come to an end (assumptions 11 and 21).
-/

namespace Sys2Proof.Machine

variable {s t a b d : State} {w : WinNo}

/-! ### Grants (R120) -/

/-- The queue, the clock, the parameters, the frame and the taken-command count. -/
def State.steady (s : State) :=
  (s.pending, s.rstAsserted, s.tick, s.clock, s.lowMark, s.flushAge, s.flushAgeInEffect, s.prescaler, s.enables,
    s.takenCount, s.frame)

theorem State.steady_of_outer (h : t.outer = s.outer) : t.steady = s.steady := by
  simp only [State.outer, Prod.mk.injEq] at h
  simp only [State.steady, Prod.mk.injEq]
  tauto

/-- The tags, the downstream arbiter and the presented request. -/
def State.downstream (s : State) :=
  (s.tags, s.arbPtr, s.secondGrant, s.downReq)

theorem State.downstream_of_outer (h : t.outer = s.outer) : t.downstream = s.downstream := by
  simp only [State.outer, Prod.mk.injEq] at h
  simp only [State.downstream, Prod.mk.injEq]
  tauto

theorem State.grantPass_keeps (s : State) (g : Tag) :
    (s.grantPass g).steady = s.steady ∧ (s.grantPass g).engine = s.engine ∧
      (s.grantPass g).channel.length ≤ s.channel.length := by
  unfold State.grantPass
  split
  · exact ⟨rfl, rfl, le_rfl⟩
  · rename_i r rest hc
    exact ⟨rfl, rfl, by rw [hc]; exact Nat.le_succ _⟩

theorem State.grantTable_keeps (s : State) (g : Tag) :
    (s.grantTable g).steady = s.steady ∧ (s.grantTable g).engine = s.engine ∧
      (s.grantTable g).channel.length ≤ s.channel.length := by
  have hi := s.grantTable_ingress g
  simp only [State.ingress, Prod.mk.injEq] at hi
  obtain ⟨-, -, hchannel, -, -, hengine⟩ := hi
  refine ⟨?_, hengine, by rw [hchannel]⟩
  unfold State.grantTable
  split
  · rfl
  · split
    · rfl
    · dsimp only
      split
      · rfl
      · exact (State.steady_of_outer (State.outer_of_fixed (State.mapEntry_fixed ..)) :)
      all_goals rfl

theorem State.grantSnap_keeps (s : State) (g : Tag) :
    (s.grantSnap g).steady = s.steady ∧ (s.grantSnap g).engine = s.engine ∧
      (s.grantSnap g).channel.length ≤ s.channel.length := by
  unfold State.grantSnap
  split
  · split <;> exact ⟨rfl, rfl, le_rfl⟩
  · exact ⟨rfl, rfl, le_rfl⟩

theorem State.grant_keeps (s : State) :
    s.grant.steady = s.steady ∧ s.grant.engine = s.engine ∧ s.grant.channel.length ≤ s.channel.length := by
  rcases s.grant_cases with h | ⟨c, g, -, -, h⟩ <;> rw [h]
  · exact ⟨rfl, rfl, le_rfl⟩
  · cases c with
    | pass => exact State.grantPass_keeps _ g
    | table => exact State.grantTable_keeps _ g
    | snap => exact State.grantSnap_keeps _ g

/-! ### Takings (R42) -/

/-- A taking shortens the channel and leaves the downstream side. -/
theorem State.takeHead_channel (h : s.takeHead = some t) : t.channel.length + 1 = s.channel.length := by
  obtain ⟨r, rest, hc, -, ⟨-, rfl⟩ | ⟨w, -, rfl⟩⟩ := State.takeHead_cases h
  · rw [hc]
    rfl
  · have hch : (State.takeCounter { s with channel := rest } w r).channel = rest :=
      State.channel_of_fixed (State.takeCounter_fixed { s with channel := rest } w r)
    rw [hch, hc, List.length_cons]

theorem State.takeHead_eq_none :
    s.takeHead = none ↔
      ∀ r rest, s.channel = r :: rest → s.mayTake r = true → classify s.windows r = .outside := by
  constructor
  · intro h r rest hc hm
    cases hk : classify s.windows r with
    | outside => rfl
    | straddling | window => simp [State.takeHead, hc, hm, hk] at h
  · intro h
    by_contra hne
    obtain ⟨t, ht⟩ := Option.ne_none_iff_exists'.mp hne
    obtain ⟨r, rest, hc, hm, ⟨hk, -⟩ | ⟨w, hk, -⟩⟩ := State.takeHead_cases ht <;> simp [h r rest hc hm] at hk

/-- Whether a request can be taken does not hang on the count of free values. -/
theorem State.takeHead_counted (s : State) (n : Nat) : ({ s with choice := n } : State).takeHead = none ↔ s.takeHead = none := by
  rw [State.takeHead_eq_none, State.takeHead_eq_none]
  rfl

theorem State.nextHappening_eq_none : s.nextHappening = none ↔ s.takeHead = none ∧ s.chosen = none := by
  constructor
  · intro h
    unfold State.nextHappening at h
    split at h
    · exact ⟨by assumption, by assumption⟩
    · cases h
    · cases h
    · rename_i u c ht hc
      dsimp only at h
      split at h
      · cases h
      · rw [State.takeHead_counted, ht] at h
        cases h
  · exact fun ⟨ht, hc⟩ => State.nextHappening_none ht hc

/-- What a happening that falls at once keeps. -/
theorem State.nextHappening_keeps (h : s.nextHappening = some t) : t.steady = s.steady ∧ t.engine = s.engine := by
  have htake : ∀ {u v : State}, u.takeHead = some v → v.steady = u.steady ∧ v.engine = u.engine :=
    fun hv => ⟨State.steady_of_outer (State.takeHead_outer _ hv), State.takeHead_engine _ hv⟩
  have hgrant : ∀ u : State, u.grant.steady = u.steady ∧ u.grant.engine = u.engine :=
    fun u => ⟨u.grant_keeps.1, u.grant_keeps.2.1⟩
  rcases State.nextHappening_cases h with ⟨ht, -⟩ | ⟨-, -, rfl⟩ | ⟨-, ht | rfl⟩
  · exact htake ht
  · exact hgrant s
  · exact (htake ht :)
  · exact hgrant { s with choice := s.choice + 1 }

/-- With a request presented downstream only takings fall at once. -/
theorem State.nextHappening_downstream (hbusy : s.downReq ≠ none) (h : s.nextHappening = some t) :
    t.downstream = s.downstream := by
  rcases State.nextHappening_cases h with ⟨ht, -⟩ | ⟨-, hc, -⟩ | ⟨hc, -⟩
  · exact State.downstream_of_outer (State.takeHead_outer s ht)
  all_goals exact absurd (State.chosen_busy hbusy) hc

/-! ### The takings and the grant come to an end -/

/-- A bound on the happenings that can still fall at once: each taking shortens the channel, and a grant occupies the
downstream channel. -/
def State.reach (s : State) : Nat :=
  s.channel.length + if s.downReq = none then 1 else 0

theorem State.reach_le (s : State) : s.reach ≤ s.channel.length + 1 := by
  unfold State.reach
  split <;> omega

theorem State.drainCheck_channel (s : State) (w : WinNo) : (s.drainCheck w).channel = s.channel := by
  unfold State.drainCheck
  split <;> rfl

theorem State.drainChecks_channel (s : State) : s.drainChecks.channel = s.channel :=
  foldl_keeps State.channel State.drainCheck State.drainCheck_channel _ s

theorem State.softClear_channel (s : State) : s.softClear.channel = s.channel := by
  have h := State.channel_of_fixed s.answerOffline_fixed
  simp only [State.softClear]
  exact h

theorem State.clearCheck_channel (s : State) : s.clearCheck.channel = s.channel := by
  unfold State.clearCheck
  split
  · exact s.softClear_channel
  · rfl

theorem State.flushAllCheck_channel (s : State) : s.flushAllCheck.channel = s.channel := by
  unfold State.flushAllCheck
  split <;> rfl

theorem State.finishCheck_channel (s : State) : s.finishCheck.channel = s.channel := by
  unfold State.finishCheck
  split <;> rfl

theorem State.chooseResponse_channel (s : State) : s.chooseResponse.channel = s.channel := by
  unfold State.chooseResponse
  repeat' split
  all_goals rfl

theorem settle_channel (a b : State) : (settle a b).channel = b.channel := by
  rw [settle, State.chooseResponse_channel, State.finishCheck_channel, State.clearCheck_channel,
    State.channel_of_fixed (orderFlushes_fixed _ _), State.flushAllCheck_channel, State.drainChecks_channel]
  exact State.channel_of_fixed (rounds_fixed _ _ _)

theorem settle_reach (a b : State) : (settle a b).reach = b.reach := by
  unfold State.reach
  rw [settle_channel, settle_downReq]

/-- Each happening that falls at once uses up the bound. -/
theorem State.nextHappening_reach (h : s.nextHappening = some t) : t.reach < s.reach := by
  have htake : ∀ {u : State}, u.channel = s.channel → u.downReq = s.downReq → u.takeHead = some t → t.reach < s.reach := by
    intro u hc hd ht
    have hlen := State.takeHead_channel ht
    have hdown : t.downstream = u.downstream := State.downstream_of_outer (State.takeHead_outer u ht)
    simp only [State.downstream, Prod.mk.injEq] at hdown
    obtain ⟨-, -, -, hreq⟩ := hdown
    unfold State.reach
    rw [hreq, hd, ← hc]
    omega
  have hgrant : ∀ {u : State}, u.channel = s.channel → u.downReq = s.downReq → u.chosen ≠ none → t = u.grant →
      t.reach < s.reach := by
    rintro u hc hd hch rfl
    have hfree : s.downReq = none := by
      by_contra hbusy
      exact hch (State.chosen_busy (hd ▸ hbusy))
    obtain ⟨-, -, hlen⟩ := u.grant_keeps
    unfold State.reach
    rw [if_neg (State.grant_presents hch), if_pos hfree, ← hc]
    omega
  rcases State.nextHappening_cases h with ⟨ht, -⟩ | ⟨-, hc, hg⟩ | ⟨hc, ht | hg⟩
  · exact htake rfl rfl ht
  · exact hgrant rfl rfl hc hg
  · exact htake (u := { s with choice := s.choice + 1 }) rfl rfl ht
  · exact hgrant (u := { s with choice := s.choice + 1 }) rfl rfl hc hg

/-- With fuel for the bound the takings and the grant come to rest. -/
theorem follow_rests {n : Nat} (h : s.reach ≤ n) : (follow n s).nextHappening = none := by
  induction n generalizing s with
  | zero =>
    rw [follow]
    by_contra hne
    obtain ⟨t, ht⟩ := Option.ne_none_iff_exists'.mp hne
    have := State.nextHappening_reach ht
    omega
  | succ n ih =>
    unfold follow
    split
    · assumption
    · rename_i t ht
      have hlt := State.nextHappening_reach ht
      exact ih (by rw [settle_reach]; omega)

/-- More fuel than the bound makes no difference. -/
theorem follow_fuel {n m : Nat} (hn : s.reach ≤ n) (hm : s.reach ≤ m) : follow n s = follow m s := by
  induction n generalizing s m with
  | zero =>
    have hrest : s.nextHappening = none := follow_rests (n := 0) hn
    rw [follow_rest hrest, follow_rest hrest]
  | succ n ih =>
    cases hnext : s.nextHappening with
    | none => rw [follow_rest hnext, follow_rest hnext]
    | some t =>
      have hlt := State.nextHappening_reach hnext
      obtain ⟨k, rfl⟩ : ∃ k, m = k + 1 := ⟨m - 1, by omega⟩
      simp only [follow, hnext]
      exact ih (by rw [settle_reach]; omega) (by rw [settle_reach]; omega)

theorem finish_rests (a b : State) : (finish a b).nextHappening = none :=
  follow_rests (State.reach_le _)

/-- A settled state at rest is the end of the happening. -/
theorem finish_of_rest (h : (settle a b).nextHappening = none) : finish a b = settle a b :=
  follow_rest h _

/-- What falls at once after the settling is a happening with its own end. -/
theorem finish_of_next (h : (settle a b).nextHappening = some t) : finish a b = finish (settle a b) t := by
  have hlt := State.nextHappening_reach h
  have hle := State.reach_le (settle a b)
  rw [finish_eq, finish_eq]
  rw [show follow ((settle a b).channel.length + 1) (settle a b) =
      follow (settle a b).channel.length (settle (settle a b) t) by simp only [follow, h]]
  exact follow_fuel (by rw [settle_reach]; omega) (State.reach_le _)

/-! ### What the end of a happening keeps -/

theorem finish_steady (a b : State) : (finish a b).steady = b.steady := by
  have hsettle : ∀ s t : State, (settle s t).steady = t.steady := fun s t => State.steady_of_outer (settle_outer s t)
  refine follow_induct (P := fun t => t.steady = b.steady) (fun s t hs ht => ?_) _ _ (hsettle a b)
  rw [hsettle, (State.nextHappening_keeps ht).1, hs]

theorem finish_engine (h : b.softRunning = false) : (finish a b).engine = b.engine := by
  refine follow_induct (P := fun t => t.engine = b.engine) (fun s t hs ht => ?_) _ _ (settle_engine a b h)
  have hengine : t.engine = b.engine := (State.nextHappening_keeps ht).2.trans hs
  have hsoft : t.softRunning = false := by
    rw [← h]
    simp only [State.softRunning, hengine]
  exact (settle_engine s t hsoft).trans hengine

theorem finish_downstream (h : b.downReq ≠ none) : (finish a b).downstream = b.downstream := by
  have hsettle : ∀ s t : State, (settle s t).downstream = t.downstream :=
    fun s t => State.downstream_of_outer (settle_outer s t)
  refine follow_induct (P := fun t => t.downstream = b.downstream) (fun s t hs ht => ?_) _ _ (hsettle a b)
  have hreq : s.downReq = b.downReq := congrArg (fun q => q.2.2.2) hs
  rw [hsettle, State.nextHappening_downstream (hreq ▸ h) ht, hs]

/-! ### What the end of a happening leaves done -/

/-- Window `w` drains, and neither an entry nor the held request is left to it (R35). -/
def State.drainDue (s : State) (w : WinNo) : Prop :=
  (s.window w).state = .draining ∧ s.entryCount w = 0 ∧ s.holdsRequestOf w = false

theorem State.drainDue_congr (hw : t.windows = s.windows) (he : t.entries = s.entries) (hh : t.hold = s.hold) :
    t.drainDue w ↔ s.drainDue w := by
  simp only [State.drainDue, State.window, State.entryCount, State.holdsRequestOf, hw, he, hh]

theorem State.drainCheck_drainDue {v : WinNo} (h : (s.drainCheck v).drainDue w) : s.drainDue w ∧ w ≠ v := by
  by_cases hv : s.drainDue v
  · rw [State.drainCheck_of_due hv.1 hv.2.1 hv.2.2] at h
    obtain ⟨hstate, hcount, hhold⟩ := h
    rw [State.window_setWinState] at hstate
    split at hstate
    · cases hstate
    · rename_i hne
      exact ⟨⟨hstate, hcount, hhold⟩, Ne.symm hne⟩
  · rw [show s.drainCheck v = s from if_neg hv] at h
    exact ⟨h, fun hwv => hv (hwv ▸ h)⟩

theorem State.drainChecks_fold_drainDue (ws : List WinNo) (h : (ws.foldl State.drainCheck s).drainDue w) :
    s.drainDue w ∧ w ∉ ws := by
  induction ws generalizing s with
  | nil => exact ⟨h, List.not_mem_nil⟩
  | cons v vs ih =>
    obtain ⟨hdue, hrest⟩ := ih h
    obtain ⟨hfirst, hne⟩ := State.drainCheck_drainDue hdue
    exact ⟨hfirst, List.not_mem_cons_of_ne_of_not_mem hne hrest⟩

theorem State.drainChecks_drainDue (s : State) (w : WinNo) : ¬ s.drainChecks.drainDue w :=
  fun h => (State.drainChecks_fold_drainDue _ h).2 (List.mem_finRange w)

/-- A FLUSH ALL in progress has no mark and no carried entry left (R108). -/
def State.flushAllDue (s : State) : Prop :=
  s.flushAllRunning = true ∧ s.anyFlushMark = false ∧ s.carry = []

theorem State.flushAllCheck_flushAllDue (s : State) : ¬ s.flushAllCheck.flushAllDue := by
  unfold State.flushAllCheck
  split
  · exact fun h => Bool.false_ne_true h.1
  · rename_i hnot
    rintro ⟨hrun, hmark, hcarry⟩
    simp [hrun, hmark, hcarry] at hnot

/-- What no check of the end of a happening finds left to do in the window table, the counter table, the soft reset
sequence and the response arbiter. -/
structure State.Settled (s : State) : Prop where
  drained : ∀ w, ¬ s.drainDue w
  flushed : ¬ s.flushAllDue
  tagsOut : s.engine = .executing .waitTags → s.tagsFree = false
  owing : s.engine = .executing .waitDelivery → s.listsEmpty = false
  presents : s.presented = none → ∀ id, s.headReady id = false

theorem mem_arbiterOrder (ptr id : UpId) : id ∈ arbiterOrder ptr :=
  List.mem_map.mpr ⟨id - (ptr + 1), List.mem_finRange _, add_sub_cancel _ _⟩

theorem State.softClear_drainDue (s : State) (w : WinNo) : ¬ s.softClear.drainDue w := by
  rintro ⟨hstate, -⟩
  rw [State.softClear_window] at hstate
  cases hstate

/-- After the clearing check nothing is due that was not due before it, and no first phase stands with every tag free. -/
theorem State.clearCheck_done (hdrained : ∀ w, ¬ s.drainDue w) (hflushed : ¬ s.flushAllDue) :
    (∀ w, ¬ s.clearCheck.drainDue w) ∧ ¬ s.clearCheck.flushAllDue ∧
      (s.clearCheck.engine = .executing .waitTags → s.clearCheck.tagsFree = false) := by
  unfold State.clearCheck
  split
  · exact ⟨s.softClear_drainDue, fun h => Bool.false_ne_true h.1, fun h => by cases h⟩
  · rename_i hnot
    exact ⟨hdrained, hflushed, fun h => Bool.eq_false_iff.mpr fun htags => hnot ⟨h, htags⟩⟩

theorem State.finishCheck_done (hdrained : ∀ w, ¬ s.drainDue w) (hflushed : ¬ s.flushAllDue)
    (htags : s.engine = .executing .waitTags → s.tagsFree = false) :
    (∀ w, ¬ s.finishCheck.drainDue w) ∧ ¬ s.finishCheck.flushAllDue ∧
      (s.finishCheck.engine = .executing .waitTags → s.finishCheck.tagsFree = false) ∧
      (s.finishCheck.engine = .executing .waitDelivery → s.finishCheck.listsEmpty = false) := by
  unfold State.finishCheck
  split
  · refine ⟨hdrained, hflushed, ?_, ?_⟩ <;> exact fun h => by cases h
  · rename_i hnot
    exact ⟨hdrained, hflushed, htags, fun h => Bool.eq_false_iff.mpr fun hempty => hnot ⟨h, hempty⟩⟩

theorem State.chooseResponse_settled (hdrained : ∀ w, ¬ s.drainDue w) (hflushed : ¬ s.flushAllDue)
    (htags : s.engine = .executing .waitTags → s.tagsFree = false)
    (howing : s.engine = .executing .waitDelivery → s.listsEmpty = false) : s.chooseResponse.Settled := by
  unfold State.chooseResponse
  split
  · rename_i id hp
    exact ⟨hdrained, hflushed, htags, howing, fun h => by simp [hp] at h⟩
  · split
    · exact ⟨hdrained, hflushed, htags, howing, fun h => by cases h⟩
    · rename_i hfind
      refine ⟨hdrained, hflushed, htags, howing, fun _ id => ?_⟩
      exact Bool.eq_false_iff.mpr (List.find?_eq_none.mp hfind id (mem_arbiterOrder _ id))

theorem State.flushAllCheck_drainDue (h : s.flushAllCheck.drainDue w) : s.drainDue w := by
  unfold State.flushAllCheck at h
  split at h
  · exact (State.drainDue_congr rfl rfl rfl).mp h
  · exact h

theorem orderFlushes_drainDue : (orderFlushes a s).drainDue w ↔ s.drainDue w := State.drainDue_congr rfl rfl rfl

theorem orderFlushes_flushAllDue : (orderFlushes a s).flushAllDue ↔ s.flushAllDue := Iff.rfl

theorem settle_settled (a b : State) : (settle a b).Settled := by
  simp only [settle]
  generalize rounds roundLimit a b = d
  have hdrained : ∀ w, ¬ (orderFlushes a d.drainChecks.flushAllCheck).drainDue w :=
    fun w h => d.drainChecks_drainDue w (State.flushAllCheck_drainDue (orderFlushes_drainDue.mp h))
  have hflushed : ¬ (orderFlushes a d.drainChecks.flushAllCheck).flushAllDue :=
    mt orderFlushes_flushAllDue.mp d.drainChecks.flushAllCheck_flushAllDue
  obtain ⟨hdrained, hflushed, htags⟩ := State.clearCheck_done hdrained hflushed
  obtain ⟨hdrained, hflushed, htags, howing⟩ := State.finishCheck_done hdrained hflushed htags
  exact State.chooseResponse_settled hdrained hflushed htags howing

theorem finish_settled (a b : State) : (finish a b).Settled :=
  follow_induct (P := State.Settled) (fun s t _ _ => settle_settled s t) _ _ (settle_settled a b)

theorem State.anyFlushMark_iff : s.anyFlushMark = true ↔ ∃ e x, s.entry e = some x ∧ x.flushAll = true := by
  simp only [State.anyFlushMark, State.entries_toList, List.any_map, List.any_eq_true, List.mem_finRange, true_and,
    Function.comp_apply]
  refine exists_congr fun e => ?_
  cases s.entry e <;> simp

theorem State.tagsFree_eq_false : s.tagsFree = false ↔ ∃ g, s.tagAt g ≠ none := by
  have htags : s.tags.toList = (List.finRange 32).map s.tagAt :=
    List.ext_getElem (by simp) fun n h1 h2 => by simp [State.tagAt]
  simp [State.tagsFree, htags]

theorem State.listsEmpty_eq_false : s.listsEmpty = false ↔ ∃ id, (s.list id).records ≠ [] := by
  have hlists : s.lists.toList = (List.finRange 16).map s.list :=
    List.ext_getElem (by simp) fun n h1 h2 => by simp [State.list]
  simp [State.listsEmpty, hlists]

/-- A window that drains and is not due has an entry or the held request (R35). -/
theorem State.not_drainDue_iff : ¬ s.drainDue w ↔
    ((s.window w).state = .draining → s.entryCount w ≠ 0 ∨ s.holdsRequestOf w = true) := by
  rw [State.drainDue, not_and, not_and_or, ← ne_eq, Bool.not_eq_false]

theorem State.not_flushAllDue_iff : ¬ s.flushAllDue ↔
    (s.flushAllRunning = true → s.anyFlushMark = true ∨ s.carry ≠ []) := by
  rw [State.flushAllDue, not_and, not_and_or, Bool.not_eq_false, ← ne_eq]

/-! ### What the end of a happening does, where one round leaves no retry due -/

/-- Some head of the dirty list left it: by the happening, a retry or a pressure flush (R98). -/
theorem headsLeft_iff {r p : State} : (headLeft a b || headLeft b r || headLeft r p) = true ↔
    ∃ e es, (a.dirty = e :: es ∧ e ∉ b.dirty) ∨ (b.dirty = e :: es ∧ e ∉ r.dirty) ∨ (r.dirty = e :: es ∧ e ∉ p.dirty) := by
  have hleft : ∀ s t : State, headLeft s t = true ↔ ∃ e es, s.dirty = e :: es ∧ e ∉ t.dirty := fun s t => by
    unfold headLeft
    cases s.dirty <;> simp
  simp only [Bool.or_eq_true, hleft, exists_or, or_assoc]

/-- One round suffices where no retry is due after it. -/
theorem rounds_of_one {r : State} (hr : retries a b = r)
    (hd : (if headLeft a b || headLeft b r || headLeft r r.pressureAct then r.pressureAct.ageCheck else r.pressureAct) = d)
    (hhold : holdDue b d = false) (hwalk : walkDue b d = false) : rounds roundLimit a b = d := by
  simp only [roundLimit, rounds, hr, hd, hhold, hwalk, Bool.or_self, Bool.false_eq_true, if_false]

theorem State.drainChecks_of_none_due (h : ∀ w, ¬ s.drainDue w) : s.drainChecks = s := by
  have hw : ∀ w, s.drainCheck w = s := fun w => if_neg (h w)
  unfold State.drainChecks
  induction List.finRange 16 with
  | nil => rfl
  | cons w ws ih => rw [List.foldl_cons, hw, ih]

theorem State.flushAllCheck_of_not_due (h : ¬ s.flushAllDue) : s.flushAllCheck = s := by
  unfold State.flushAllCheck
  rw [if_neg]
  simpa [State.flushAllDue, and_assoc] using h

/-- After the rounds, with no window and no FLUSH ALL due and no soft reset running, the flushes are ordered and a
response is presented. -/
theorem settle_of_rounds (hr : rounds roundLimit a b = d) (hdrain : ∀ w, ¬ d.drainDue w) (hflush : ¬ d.flushAllDue)
    (hsoft : d.softRunning = false) : settle a b = (orderFlushes a d).chooseResponse := by
  have hordered : (orderFlushes a d).softRunning = false := hsoft
  rw [settle, hr, State.drainChecks_of_none_due hdrain, State.flushAllCheck_of_not_due hflush,
    State.clearCheck_of_not_soft hordered, State.finishCheck_of_not_soft hordered]

/-- Where no flush was started, the issue queue keeps its order. -/
theorem orderFlushes_of_none (h : ∀ e, flushedNow a b e = false) : orderFlushes a b = b := by
  have hrefill : ∀ xs, refill (flushedNow a b) xs [] = xs := fun xs => by
    induction xs with
    | nil => rfl
    | cons x xs ih => rw [refill, ih]
  simp [orderFlushes, h, hrefill]

theorem State.chooseResponse_chosen (s : State) : s.chooseResponse.chosen = s.chosen := by
  unfold State.chooseResponse
  repeat' split
  all_goals rfl

/-- Of a taking and a grant that fall together the free value lets one come first (assumption 21). -/
theorem State.nextHappening_of_both (ht : s.takeHead ≠ none) (hc : s.chosen ≠ none) :
    s.nextHappening = if Config.grantFirst s.choice then some (s.recount (s.choice + 1)).grant
      else (s.recount (s.choice + 1)).takeHead := by
  obtain ⟨v, ht⟩ := Option.ne_none_iff_exists'.mp ht
  obtain ⟨c, hc⟩ := Option.ne_none_iff_exists'.mp hc
  simp only [State.nextHappening, ht, hc, State.recount]

/-- What falls at once after the settling, by what can be taken and what can be granted (assumption 21). -/
theorem finish_by_next {u : State} (hu : settle a b = u) :
    let both : State := { u with choice := u.choice + 1 }
    (u.takeHead = none → u.chosen = none → finish a b = u) ∧
    (∀ v, u.takeHead = some v → u.chosen = none → finish a b = finish u v) ∧
    (u.takeHead = none → u.chosen ≠ none → finish a b = finish u u.grant) ∧
    (u.takeHead ≠ none → u.chosen ≠ none →
      (Config.grantFirst u.choice = true → finish a b = finish u both.grant) ∧
      (Config.grantFirst u.choice = false → ∀ v, both.takeHead = some v → finish a b = finish u v)) := by
  subst hu
  refine ⟨fun ht hc => ?_, fun v ht hc => ?_, fun ht hc => ?_, fun ht hc => ⟨fun hg => ?_, fun hg v hv => ?_⟩⟩
  · exact finish_of_rest (State.nextHappening_none ht hc)
  all_goals refine finish_of_next ?_
  · simp only [State.nextHappening, ht, hc]
  · obtain ⟨c, hc⟩ := Option.ne_none_iff_exists'.mp hc
    simp only [State.nextHappening, ht, hc]
  · exact (State.nextHappening_of_both ht hc).trans (if_pos hg)
  · refine ((State.nextHappening_of_both ht hc).trans (if_neg ?_)).trans hv
    exact Bool.eq_false_iff.mp hg

end Sys2Proof.Machine

open Sys2Proof Sys2Proof.Machine

/-- Settles O4. What is kept and what is left done hold of every settled state and so, by induction on the takings and
grants that follow, of the end; those come to rest because each shortens the channel or occupies the downstream side. -/
theorem finishKeepsAndRests : Obligations.FinishKeepsAndRests := by
  refine ⟨fun a b => ⟨?_, finish_engine, fun hreq => ?_⟩, ?_, fun a b => ?_, ?_⟩
  · have h := finish_steady a b
    simpa only [State.steady, Prod.mk.injEq] using h
  · have h := finish_downstream (a := a) hreq
    simpa only [State.downstream, Prod.mk.injEq] using h
  · intro a b hhold hwalk hpress hhead hdrain hflush hsoft hnone hch hchosen
    have hact : b.pressureAct = b := by simp [State.pressureAct, hpress]
    have hage : (if headLeft a b || headLeft b b || headLeft b b.pressureAct then b.pressureAct.ageCheck
        else b.pressureAct) = b := by
      rcases hhead with hleft | hzero
      · simp [hact, hleft]
      · have hcheck : b.ageCheck = b := by
          simp [State.ageCheck, State.agedHeads, hzero, State.startFlushes]
        simp [hact, hcheck]
    have hround : rounds roundLimit a b = b :=
      rounds_of_one (by simp [retries, hhold, hwalk]) hage (holdDue_self b) (walkDue_self b)
    have hsettle : settle a b = b.chooseResponse := by
      rw [settle_of_rounds hround (fun w => State.not_drainDue_iff.mpr (hdrain w)) (State.not_flushAllDue_iff.mpr hflush)
        hsoft, orderFlushes_of_none hnone]
    have htake : b.chooseResponse.takeHead = none :=
      State.takeHead_eq_none.mpr fun r rest hc => by simp [State.chooseResponse_channel, hch] at hc
    exact (finish_by_next hsettle).1 htake (b.chooseResponse_chosen.trans hchosen)
  · obtain ⟨hdrained, hflushed, htags, howing, hpresents⟩ := finish_settled a b
    obtain ⟨htake, hchosen⟩ := State.nextHappening_eq_none.mp (finish_rests a b)
    refine ⟨fun w hst => ?_, fun hrun => ?_, fun he => State.tagsFree_eq_false.mp (htags he),
      fun he => State.listsEmpty_eq_false.mp (howing he), hpresents, htake, hchosen⟩
    · rcases State.not_drainDue_iff.mp (hdrained w) hst with hcount | hheld
      · left
        by_contra hno
        exact hcount (State.entryCount_eq_zero.mpr fun e x hx hw => hno ⟨e, x, hx, hw⟩)
      · right
        by_contra hno
        rw [State.holdsRequestOf_eq_false.mpr fun h hh hw => hno ⟨h, hh, hw⟩] at hheld
        cases hheld
    · rw [← State.anyFlushMark_iff]
      exact State.not_flushAllDue_iff.mp hflushed hrun
  · intro a b r d counted p headGone hnone hretry hwalk hboth hgone hstay hhold' hwalk' hdrain hflush hsoft
    have hr : retries a b = r := by
      unfold retries
      cases hh : holdDue a b <;> cases hw : walkDue a b
      · exact (hnone hh hw).symm
      · exact (hwalk hh hw).symm
      · exact (hretry hh hw).symm
      · exact (hboth hh hw).symm
    have hd : (if headLeft a b || headLeft b r || headLeft r r.pressureAct then r.pressureAct.ageCheck
        else r.pressureAct) = d := by
      split
      · rename_i hleft
        exact (hgone (headsLeft_iff.mp hleft)).symm
      · rename_i hleft
        exact (hstay (mt headsLeft_iff.mpr hleft)).symm
    exact finish_by_next (settle_of_rounds (rounds_of_one hr hd hhold' hwalk')
      (fun w => State.not_drainDue_iff.mpr (hdrain w)) (State.not_flushAllDue_iff.mpr hflush) hsoft)

end

section
/-!
SUPPORT. The bounded lists and counts through an operation: each response order list keeps its records in their order, with
their answers, and takes new ones behind (R49, R51), and no list or count passes its bound (R49, R128, R154, R164).
`State.Grows` says so of two states; it composes, so a step is judged operation by operation.
-/

namespace Sys2Proof.Machine

variable {s t u : State}

/-! ### Lists later on -/

theorem laters_trans {a b c : List Record} (h : List.Forall₂ Record.later a b) (k : List.Forall₂ Record.later b c) :
    List.Forall₂ Record.later a c := by
  induction h generalizing c with
  | nil => exact k
  | cons hr _ ih =>
    obtain ⟨r, rs, kr, krs, rfl⟩ := List.forall₂_cons_left_iff.mp k
    exact .cons (Record.later_trans hr kr) (ih krs)

theorem laterList_trans {n : Nat} {a b c : List Record} (h : laterList n a b) (k : laterList 0 b c) : laterList n a c := by
  obtain ⟨kept, new, rfl, hkept⟩ := h
  obtain ⟨kept', new', rfl, hkept'⟩ := k
  have hold := List.forall₂_take kept.length hkept'
  rw [List.drop_zero, List.take_left] at hold
  refine ⟨kept'.take kept.length, kept'.drop kept.length ++ new', ?_, laters_trans hkept hold⟩
  rw [← List.append_assoc, List.take_append_drop]

/-- Records later on have the keys they had. -/
theorem keys_of_later {rs rs' : List Record} (h : List.Forall₂ Record.later rs rs') :
    rs'.map (·.key) = rs.map (·.key) := by
  induction h with
  | nil => rfl
  | cons hr _ ih => rw [List.map_cons, List.map_cons, ih, hr.1]

/-- One response order list later on: the records it had stand before new ones, and neither fresh keys nor the bound of 8
records are lost. -/
structure OrderList.Grows (l l' : OrderList) : Prop where
  order : laterList 0 l.records l'.records
  fresh : (∀ r ∈ l.records, r.key < l.nextKey) → ∀ r ∈ l'.records, r.key < l'.nextKey
  depth : l.records.length ≤ 8 → l'.records.length ≤ 8

theorem OrderList.Grows.refl (l : OrderList) : l.Grows l :=
  ⟨laterList_refl l.records, id, id⟩

theorem OrderList.Grows.trans {a b c : OrderList} (h : a.Grows b) (k : b.Grows c) : a.Grows c :=
  ⟨laterList_trans h.order k.order, k.fresh ∘ h.fresh, k.depth ∘ h.depth⟩

/-- A list whose records are answered or linked, each in its place. -/
theorem OrderList.grows_of_later {l : OrderList} {rs : List Record} (h : List.Forall₂ Record.later l.records rs) :
    l.Grows { l with records := rs } := by
  refine ⟨⟨rs, [], by simp, by simpa using h⟩, fun hf r hr => ?_, fun hd => h.length_eq ▸ hd⟩
  have hkey : r.key ∈ l.records.map (·.key) := keys_of_later h ▸ List.mem_map_of_mem hr
  obtain ⟨q, hq, hqr⟩ := List.mem_map.mp hkey
  exact hqr ▸ hf q hq

/-- A list with room that takes the record of a new request. -/
theorem OrderList.grows_append {l : OrderList} {r : Record} (hroom : l.records.length < 8) (hkey : r.key = l.nextKey) :
    l.Grows { records := l.records ++ [r], nextKey := l.nextKey + 1 } := by
  refine ⟨⟨l.records, [r], rfl, ?_⟩, fun hf q hq => ?_, fun _ => ?_⟩
  · exact List.forall₂_same.mpr fun q _ => Record.later_refl q
  · rcases List.mem_append.mp hq with hq | hq
    · exact Nat.lt_succ_of_lt (hf q hq)
    · rw [List.mem_singleton.mp hq, hkey]
      exact Nat.lt_succ_self _
  · simpa using hroom

/-! ### States later on -/

/-- Every response order list grows, and the exception list, the alert queue and the count of further faults stay within
their bounds. -/
structure State.Grows (s t : State) : Prop where
  lists : ∀ id, (s.list id).Grows (t.list id)
  exceptions : s.snap.exceptions.length ≤ 16 → t.snap.exceptions.length ≤ 16
  alerts : s.alerts.length ≤ 32 → t.alerts.length ≤ 32
  further : s.faults.further ≤ 255 → t.faults.further ≤ 255

theorem State.Grows.refl (s : State) : s.Grows s :=
  ⟨fun _ => OrderList.Grows.refl _, id, id, id⟩

theorem State.Grows.trans (h : s.Grows t) (k : t.Grows u) : s.Grows u :=
  ⟨fun id => (h.lists id).trans (k.lists id), k.exceptions ∘ h.exceptions, k.alerts ∘ h.alerts, k.further ∘ h.further⟩

theorem State.Grows.withinBounds (h : s.Grows t) (hs : s.withinBounds) : t.withinBounds := by
  obtain ⟨hfresh, hdepth, hexc, halerts, hfurther⟩ := hs
  exact ⟨fun id => (h.lists id).fresh (hfresh id), fun id => (h.lists id).depth (hdepth id), h.exceptions hexc,
    h.alerts halerts, h.further hfurther⟩

/-- The bounded lists and counts. -/
def State.tally (s : State) :=
  (s.lists, s.snap.exceptions, s.alerts, s.faults)

/-- What leaves the bounded lists and counts lets them grow. -/
theorem State.grows_of_tally (h : t.tally = s.tally) : s.Grows t := by
  simp only [State.tally, Prod.mk.injEq] at h
  obtain ⟨hl, he, ha, hf⟩ := h
  refine ⟨fun id => ?_, fun hs => he ▸ hs, fun hs => ha ▸ hs, fun hs => hf ▸ hs⟩
  rw [show t.list id = s.list id by simp only [State.list, hl]]
  exact OrderList.Grows.refl _

theorem State.Grows.of_tally (h : s.Grows t) (hu : u.tally = t.tally) : s.Grows u :=
  h.trans (State.grows_of_tally hu)

/-- A fold grows where each of its steps does. -/
theorem State.foldl_grows {β : Type} {f : State → β → State} (h : ∀ a b, State.Grows a (f a b)) (l : List β) (s : State) :
    s.Grows (l.foldl f s) := by
  induction l generalizing s with
  | nil => exact .refl s
  | cons b bs ih => exact (h s b).trans (ih _)

/-! ### Operations that leave the bounded lists and counts -/

@[simp] theorem State.freeEntries_tally (s : State) (es : List EntryNo) : (s.freeEntries es).tally = s.tally :=
  foldl_keeps State.tally State.freeEntry (fun _ _ => rfl) es s

@[simp] theorem State.slotCaptured_tally (s : State) (k : SlotNo) (v : Nat) : (s.slotCaptured k v).tally = s.tally := by
  unfold State.slotCaptured
  split <;> rfl

@[simp] theorem State.mapEntry_tally (s : State) (e : EntryNo) (f : Entry → Entry) :
    (s.mapEntry e f).tally = s.tally := by
  unfold State.mapEntry
  split <;> rfl

@[simp] theorem State.markUpdate_tally (s : State) (e : EntryNo) : (s.markUpdate e).tally = s.tally := by
  unfold State.markUpdate
  repeat' split
  all_goals rfl

@[simp] theorem State.useClean_tally (s : State) (e : EntryNo) : (s.useClean e).tally = s.tally := by
  unfold State.useClean
  repeat' split
  all_goals rfl

@[simp] theorem State.setEntry_tally (s : State) (e : EntryNo) (x : Option Entry) : (s.setEntry e x).tally = s.tally := rfl

theorem State.obtain_tally {e : EntryNo} (h : s.obtain = some (e, t)) : t.tally = s.tally := by
  rcases State.obtain_cases h with ⟨-, rfl⟩ | ⟨-, rest, -, rfl⟩ <;> rfl

@[simp] theorem State.captureNow_tally (s : State) (e : EntryNo) (k : SlotNo) : (s.captureNow e k).tally = s.tally := by
  unfold State.captureNow
  split
  · rfl
  · split
    · rfl
    · dsimp only
      split <;> simp

@[simp] theorem State.appendWaiters_tally (s : State) (e : EntryNo) (ws : List Waiter) (u m : Bool) :
    (s.appendWaiters e ws u m).tally = s.tally := by
  unfold State.appendWaiters
  repeat' split
  all_goals rfl

@[simp] theorem State.requestCapture_tally (s : State) (w : WinNo) (i : Nat) (k : SlotNo) :
    (s.requestCapture w i k).tally = s.tally := by
  unfold State.requestCapture
  split
  · split
    · rfl
    · rename_i ho
      exact (State.obtain_tally ho :)
  · split
    · rfl
    · split <;> simp

@[simp] theorem State.completionCheck_tally (s : State) : s.completionCheck.tally = s.tally := by
  unfold State.completionCheck
  repeat' split
  all_goals rfl

@[simp] theorem State.endCheck_tally (s : State) : s.endCheck.tally = s.tally := by
  unfold State.endCheck
  repeat' split
  all_goals rfl

@[simp] theorem State.startFlush_tally (s : State) (e : EntryNo) : (s.startFlush e).tally = s.tally := by
  rcases s.startFlush_cases e with h | ⟨x, b, -, -, h⟩ <;> rw [h]
  rfl

@[simp] theorem State.startFlushes_tally (s : State) (es : List EntryNo) : (s.startFlushes es).tally = s.tally :=
  foldl_keeps State.tally _ (fun a e => State.startFlush_tally a e) es s

@[simp] theorem State.ageCheck_tally (s : State) : s.ageCheck.tally = s.tally := by
  unfold State.ageCheck
  split <;> simp

@[simp] theorem State.pressureAct_tally (s : State) : s.pressureAct.tally = s.tally := by
  unfold State.pressureAct
  split
  · rfl
  · simp

@[simp] theorem State.drainStart_tally (s : State) (w : WinNo) : (s.drainStart w).tally = s.tally := by
  simp [State.drainStart]

@[simp] theorem State.tickOnce_tally (s : State) : s.tickOnce.tally = s.tally := by
  unfold State.tickOnce
  dsimp only
  split
  · rfl
  · exact State.startFlushes_tally ..

@[simp] theorem State.flushAllStart_tally (s : State) : s.flushAllStart.tally = s.tally :=
  State.startFlushes_tally ..

@[simp] theorem State.armingCheck_tally (s : State) (w : WinNo) : (s.armingCheck w).tally = s.tally := by
  unfold State.armingCheck
  split <;> rfl

@[simp] theorem State.armingChecks_tally (s : State) : s.armingChecks.tally = s.tally :=
  foldl_keeps State.tally _ (fun a w => State.armingCheck_tally a w) _ s

@[simp] theorem State.drainCheck_tally (s : State) (w : WinNo) : (s.drainCheck w).tally = s.tally := by
  unfold State.drainCheck
  split <;> rfl

@[simp] theorem State.drainChecks_tally (s : State) : s.drainChecks.tally = s.tally :=
  foldl_keeps State.tally _ (fun a w => State.drainCheck_tally a w) _ s

@[simp] theorem State.flushAllCheck_tally (s : State) : s.flushAllCheck.tally = s.tally := by
  unfold State.flushAllCheck
  split <;> rfl

@[simp] theorem State.finishCheck_tally (s : State) : s.finishCheck.tally = s.tally := by
  unfold State.finishCheck
  split <;> rfl

@[simp] theorem State.chooseResponse_tally (s : State) : s.chooseResponse.tally = s.tally := by
  unfold State.chooseResponse
  repeat' split
  all_goals rfl

@[simp] theorem orderFlushes_tally (a b : State) : (orderFlushes a b).tally = b.tally := rfl

@[simp] theorem State.faultExit_tally (s : State) (w : WinNo) : (s.faultExit w).tally = s.tally := by
  unfold State.faultExit
  split
  · split
    · split
      · rfl
      · exact State.drainStart_tally ..
    · rfl
  all_goals rfl

@[simp] theorem State.retrySucceeded_tally (s : State) (x : Entry) : (s.retrySucceeded x).tally = s.tally := by
  unfold State.retrySucceeded
  split <;> simp

theorem State.settleFetched_tally (s : State) (e : EntryNo) (x : Entry) (q : FetchCause) (v : Nat) (dirty cleared : Bool) :
    (s.settleFetched e x q v dirty cleared).tally = s.tally := by
  unfold State.settleFetched
  dsimp only
  repeat' split
  all_goals rfl

@[simp] theorem State.written_tally (s : State) (e : EntryNo) : (s.written e).tally = s.tally := by
  unfold State.written
  dsimp only
  repeat' split
  all_goals rfl

@[simp] theorem State.reenterAll_tally (s : State) (w : WinNo) : (s.reenterAll w).tally = s.tally := by
  refine foldl_keeps State.tally State.reenter (fun a e => ?_) (s.strandedOf w) s
  unfold State.reenter
  repeat' split
  all_goals rfl

theorem State.grantTable_tally (s : State) (g : Tag) : (s.grantTable g).tally = s.tally := by
  unfold State.grantTable
  split
  · rfl
  · split
    · rfl
    · dsimp only
      split
      · rfl
      · exact State.mapEntry_tally ..
      all_goals rfl

theorem State.grantSnap_tally (s : State) (g : Tag) : (s.grantSnap g).tally = s.tally := by
  unfold State.grantSnap
  split
  · split <;> rfl
  · rfl

/-- An acceptance rewrites its ID's latch at most. -/
theorem State.latchAtAcceptance_cases (s : State) (w : WinNo) (i : Nat) (o : Operation) (id : UpId) (link : Nat) :
    s.latchAtAcceptance w i o id link = s ∨ ∃ l, s.latchAtAcceptance w i o id link = s.setLatch id l := by
  unfold State.latchAtAcceptance
  repeat' split
  all_goals first
    | exact .inl rfl
    | exact .inr ⟨_, rfl⟩

end Sys2Proof.Machine
end

section
/-!
SUPPORT. Every operation that answers or takes a request, raises an alert, hands a fault over or captures early lets the
response order lists and the bounded counts grow (`State.Grows`), and so does the end of a happening.
-/

namespace Sys2Proof.Machine

variable {s t u : State}

/-! ### Records answered (R49, R50) -/

theorem State.setList_grows {id : UpId} {l : OrderList} (h : (s.list id).Grows l) : s.Grows (s.setList id l) := by
  refine ⟨fun j => ?_, fun hs => hs, fun hs => hs, fun hs => hs⟩
  rw [State.list_setList]
  split
  · rename_i hj
    exact hj ▸ h
  · exact .refl _

/-- Records of one ID are answered. -/
theorem State.answer_grows (s : State) (id : UpId) (which : Record → Bool) (how : Record → Answer) :
    s.Grows (s.setList id { s.list id with records := answerRecords which how (s.list id).records }) :=
  State.setList_grows (OrderList.grows_of_later (answerRecords_later ..))

theorem State.answerDone_grows (s : State) (id : UpId) (key : Nat) (data : List Byte) :
    s.Grows (s.answerDone id key data) :=
  s.answer_grows ..

theorem State.answerFailure_grows (s : State) (id : UpId) (key : Nat) (st : UpStatus) :
    s.Grows (s.answerFailure id key st) :=
  s.answer_grows ..

theorem State.reportValue_grows (s : State) (id : UpId) (key v : Nat) : s.Grows (s.reportValue id key v) := by
  refine (s.answer_grows id (Record.takesResult key) fun r => { status := .done, data := laneBytes v r.lane r.size }).of_tally
    ?_
  unfold State.reportValue
  repeat' split
  all_goals rfl

theorem State.reportFailure_grows (s : State) (id : UpId) (key : Nat) (st : UpStatus) :
    s.Grows (s.reportFailure id key st) := by
  refine (s.answer_grows id (Record.takesResult key) fun r => r.failure st).of_tally ?_
  unfold State.reportFailure
  repeat' split
  all_goals rfl

theorem linkRecord_later (key src : Nat) (rs : List Record) : List.Forall₂ Record.later rs (linkRecord key src rs) := by
  rw [linkRecord, List.forall₂_map_right_iff, List.forall₂_same]
  intro r _
  split
  · exact ⟨rfl, rfl, rfl, rfl, fun _ => rfl⟩
  · exact Record.later_refl r

theorem State.latchServe_grows {w : WinNo} {i : Nat} {o : Operation} {id : UpId} {link : Nat}
    (h : s.latchServe w i o id link = some t) : s.Grows t := by
  unfold State.latchServe at h
  repeat' split at h
  all_goals cases h
  · exact State.setList_grows (OrderList.grows_of_later (linkRecord_later ..))
  · exact s.answerDone_grows ..

/-- A request is taken into a list with room (R42, R49). -/
theorem State.appendRecord_grows {r : Request} (h : (s.list r.id).records.length < 8) (lane : Nat) :
    s.Grows (s.appendRecord r lane) :=
  State.setList_grows (OrderList.grows_append h rfl)

/-! ### Alerts and faults (R154, R164) -/

theorem State.raiseOne_grows (s : State) (w : WinNo) (i : Nat) (k : AlertKind) : s.Grows (s.raiseOne w i k) := by
  refine ⟨fun _ => .refl _, id, fun hs => ?_, id⟩
  unfold State.raiseOne
  dsimp only
  split
  · rename_i hroom
    rw [List.length_append]
    exact Nat.succ_le_of_lt hroom
  · exact hs

theorem State.raise_grows (s : State) (w : WinNo) (i : Nat) (ks : List AlertKind) : s.Grows (s.raise w i ks) :=
  State.foldl_grows (fun a k => a.raiseOne_grows w i k) ks s

theorem State.handFault_grows (s : State) (k : FaultKind) (w : WinNo) (i : Nat) : s.Grows (s.handFault k w i) := by
  unfold State.handFault
  split
  · exact ⟨fun _ => .refl _, id, id, fun _ => Nat.zero_le _⟩
  · exact ⟨fun _ => .refl _, id, id, fun _ => Nat.min_le_right _ _⟩

/-! ### Acceptance (R73 to R83, R136) -/

theorem State.applyNow_grows (s : State) (e : EntryNo) (o : Operation) (id : UpId) (link : Nat) :
    s.Grows (s.applyNow e o id link) := by
  unfold State.applyNow
  split
  · exact .refl s
  · rename_i x hx
    split
    · exact .refl s
    · rename_i v hv
      have hraise := s.raise_grows x.window x.index (applyOutcomes (s.config x.window) o v)
      have hreport : s.Grows (if o.kind.isPosted = true then
          s.raise x.window x.index (applyOutcomes (s.config x.window) o v)
          else (s.raise x.window x.index (applyOutcomes (s.config x.window) o v)).reportValue id link v) := by
        split
        · exact hraise
        · exact hraise.trans (State.reportValue_grows ..)
      dsimp only
      split <;> exact hreport.of_tally (by simp)

theorem State.carryOut_grows (s : State) (w : WinNo) (i : Nat) (o : Operation) (id : UpId) (link : Nat)
    (cap : Option SlotNo) : s.Grows (s.carryOut w i o id link cap) := by
  unfold State.carryOut
  dsimp only
  split
  · split
    · exact .refl s
    · rename_i ho
      split <;> exact State.grows_of_tally (State.obtain_tally ho :)
  · split
    · exact .refl s
    · split
      case h_1 | h_2 => split <;> exact State.grows_of_tally (by simp [State.foldAdd])
      case h_3 | h_4 =>
        split
        · exact (State.grows_of_tally (State.captureNow_tally ..)).trans (State.applyNow_grows ..)
        · exact State.applyNow_grows ..
      all_goals exact .refl s

/-- An acceptance with an early capture takes a place of the exception list, which must have one (R128, R136). -/
theorem State.accept_grows {w : WinNo} {i : Nat} {o : Operation}
    (h : s.earlyCapture w i o.kind = true → s.snap.exceptions.length < 16) (id : UpId) (link : Nat) :
    s.Grows (s.accept w i o id link) := by
  unfold State.accept
  split
  · rename_i hcap
    split
    · rename_i k _
      have htake : s.Grows (s.takeEarly i k) :=
        ⟨fun _ => .refl _, fun _ => by simpa [State.takeEarly] using h hcap, fun hs => hs, fun hs => hs⟩
      exact htake.trans (State.carryOut_grows ..)
    · exact .refl s
  · exact s.carryOut_grows ..

/-- An offer that lacks nothing has a place for the exception of its early capture (R136). -/
theorem State.offerLack_none_place {w : WinNo} {i : Nat} {k : OpKind} (h : s.offerLack w i k = none)
    (hcap : s.earlyCapture w i k = true) : s.snap.exceptions.length < 16 := by
  by_contra hfull
  by_cases hno : s.noEntryFor w i
  · rw [State.offerLack_noEntry hno] at h
    cases h
  · rw [State.offerLack_noPlace hno ⟨hcap, Nat.le_of_not_lt hfull⟩] at h
    cases h

theorem State.offer_grows {w : WinNo} {i : Nat} {o : Operation} {id : UpId} {link : Nat}
    (h : s.offer w i o id link = .settled t) : s.Grows t := by
  rcases s.offer_cases w i o id link with ⟨u, hu, ho⟩ | ⟨-, ⟨-, -, ho⟩ | ⟨r, -, ho⟩ | ⟨hlack, ho⟩⟩ <;>
    rw [ho] at h <;> cases h
  · exact State.latchServe_grows hu
  · exact s.answerFailure_grows ..
  · have hplace := State.offerLack_none_place hlack
    have hacc : s.Grows ((s.latchAtAcceptance w i o id link).accept w i o id link) := by
      rcases s.latchAtAcceptance_cases w i o id link with hl | ⟨l, hl⟩ <;> rw [hl]
      · exact State.accept_grows hplace ..
      · have hlatch : s.Grows (s.setLatch id l) := State.grows_of_tally rfl
        exact hlatch.trans (State.accept_grows (s := s.setLatch id l) hplace id link)
    split
    · exact hacc.trans (State.answerDone_grows ..)
    · exact hacc

theorem State.treat_grows {d : CounterOp} {id : UpId} {link : Nat} (h : s.treat d id link = .settled t) : s.Grows t := by
  rcases s.treat_cases d id link with ht | ⟨ht, -⟩ | ⟨st, -, ht⟩ <;> rw [ht] at h
  · exact State.offer_grows h
  · cases h
  · cases h
    exact s.answerFailure_grows ..

theorem State.retryHold_grows (s : State) : s.Grows s.retryHold := by
  unfold State.retryHold
  split
  · exact .refl s
  · split
    · rename_i ht
      exact (State.treat_grows ht).of_tally rfl
    · exact State.grows_of_tally rfl

/-! ### Taking (R42 to R45) -/

theorem State.takeCounter_grows {r : Request} (h : (s.list r.id).records.length < 8) (w : WinNo) :
    s.Grows (s.takeCounter w r) := by
  unfold State.takeCounter
  dsimp only
  split
  · exact (State.appendRecord_grows h 0).trans (State.answerFailure_grows ..)
  · rename_i d _
    have happ := State.appendRecord_grows h d.op.lane
    split
    · rename_i ht
      exact happ.trans (State.treat_grows ht)
    · exact happ.of_tally rfl

theorem State.takeHead_grows (h : s.takeHead = some t) : s.Grows t := by
  obtain ⟨r, rest, -, hmay, ht⟩ := State.takeHead_cases h
  have hroom : (({ s with channel := rest } : State).list r.id).records.length < 8 := (State.mayTake_iff.mp hmay).1
  have hchan : s.Grows { s with channel := rest } := State.grows_of_tally rfl
  rcases ht with ⟨-, rfl⟩ | ⟨w, -, rfl⟩
  · exact hchan.trans ((State.appendRecord_grows hroom 0).trans (State.answerFailure_grows ..))
  · exact hchan.trans (State.takeCounter_grows hroom w)

/-! ### The walk and the snapshot (R132, R141 to R144) -/

/-- The walk's skips only shorten the exception list. -/
theorem length_skipExceptions (n : Nat) (b : SnapJob) (xs : List Nat) :
    (skipExceptions n b xs).2.length ≤ xs.length := by
  induction n generalizing b xs with
  | zero => exact le_rfl
  | succ n ih =>
    unfold skipExceptions
    split
    · exact (ih _ _).trans (List.length_filter_le _ _)
    · exact le_rfl

theorem State.walkStep_grows (s : State) : s.Grows s.walkStep := by
  unfold State.walkStep
  split
  · cases hj : s.snap.job with
    | none => exact .refl s
    | some b =>
      have hlen := length_skipExceptions s.snap.exceptions.length b s.snap.exceptions
      rcases hsk : skipExceptions s.snap.exceptions.length b s.snap.exceptions with ⟨b1, xs⟩
      rw [hsk] at hlen
      have hskip : s.Grows { s with snap := { s.snap with job := some b1, exceptions := xs } } :=
        ⟨fun _ => .refl _, hlen.trans, id, id⟩
      simp only [hsk]
      split
      · split
        · exact hskip.of_tally rfl
        · exact hskip.of_tally (State.requestCapture_tally ..)
      · exact hskip.of_tally (State.completionCheck_tally _)
  · exact .refl s

theorem State.retryWalk_grows (s : State) : s.Grows s.retryWalk := by
  unfold State.retryWalk
  split
  · exact s.walkStep_grows
  all_goals exact .refl s

theorem State.leaveRunning_grows (s : State) (q : Ending) : s.Grows (s.leaveRunning q) :=
  ⟨fun _ => .refl _, fun _ => Nat.zero_le _, id, id⟩

theorem State.failSnapshot_grows (s : State) (i : Nat) : s.Grows (s.failSnapshot i) := by
  unfold State.failSnapshot
  split
  · exact (s.leaveRunning_grows .failed).of_tally rfl
  all_goals exact State.grows_of_tally rfl

theorem State.snapshotFaulted_grows (s : State) (w : WinNo) (i : Nat) : s.Grows (s.snapshotFaulted w i) := by
  unfold State.snapshotFaulted
  repeat' split
  · exact (s.failSnapshot_grows i).of_tally (State.endCheck_tally _)
  all_goals exact .refl s

theorem State.destinationWritten_grows (s : State) (k : SlotNo) : s.Grows (s.destinationWritten k) := by
  have hslot : s.Grows (s.setSlot k .free) := State.grows_of_tally rfl
  unfold State.destinationWritten
  dsimp only
  split
  · exact (hslot.trans (State.walkStep_grows _)).of_tally (by simp)
  · exact hslot.of_tally (by simp)

theorem State.destinationFailed_grows (s : State) (k : SlotNo) : s.Grows (s.destinationFailed k) := by
  unfold State.destinationFailed
  have hslot : s.Grows (s.setSlot k .free) := State.grows_of_tally rfl
  split
  · exact ((hslot.trans (State.handFault_grows ..)).trans (State.failSnapshot_grows ..)).of_tally (State.endCheck_tally _)
  · exact hslot

/-! ### Responses of the table's transactions (R85 to R89, R149 to R151) -/

theorem State.runWaiters_grows (s : State) (x : Entry) (d : Nat) (marked : Bool) (m : Nat) :
    s.Grows (s.runWaiters x d marked m).st := by
  have hwaiter : ∀ (a : WaiterRun) (y : Waiter),
      a.st.Grows (applyWaiter (s.config x.window) x.window x.index a y).st := fun a y => by
    cases y with
    | op o id link =>
      simp only [applyWaiter]
      split
      · exact State.raise_grows ..
      · exact (State.raise_grows ..).trans (State.reportValue_grows ..)
    | capture k =>
      simp only [applyWaiter]
      split <;> exact State.grows_of_tally (State.slotCaptured_tally ..)
  have hrun : ∀ (ws : List Waiter) (a : WaiterRun),
      a.st.Grows (ws.foldl (applyWaiter (s.config x.window) x.window x.index) a).st := fun ws => by
    induction ws with
    | nil => exact fun a => .refl a.st
    | cons y ys ih => exact fun a => (hwaiter a y).trans (ih _)
  exact (s.raise_grows ..).trans (hrun x.waiters (s.runStart x d marked m))

theorem State.fetched_grows (s : State) (e : EntryNo) (m : Nat) : s.Grows (s.fetched e m) := by
  unfold State.fetched
  split
  · exact .refl s
  · split
    · exact (s.runWaiters_grows ..).of_tally (State.settleFetched_tally ..)
    all_goals exact .refl s

theorem State.failWaiters_grows (s : State) (ws : List Waiter) (st : UpStatus) : s.Grows (s.failWaiters ws st) := by
  refine State.foldl_grows (fun a y => ?_) ws s
  split
  · split
    · exact .refl a
    · exact a.reportFailure_grows ..
  · exact .refl a

theorem State.enterFault_grows (s : State) (w : WinNo) (i : Nat) : s.Grows (s.enterFault w i) := by
  have hwin : ∀ x, s.Grows (s.setWinState w x) := fun _ => State.grows_of_tally rfl
  unfold State.enterFault
  split
  case h_1 | h_2 => exact (hwin _).trans (State.snapshotFaulted_grows ..)
  all_goals exact .refl s

theorem State.strandingEffects_grows (s : State) (k : FaultKind) (w : WinNo) (i : Nat) :
    s.Grows (s.strandingEffects k w i) :=
  (s.enterFault_grows w i).trans (State.handFault_grows ..)

theorem State.fetchFailed_grows (s : State) (e : EntryNo) : s.Grows (s.fetchFailed e) := by
  unfold State.fetchFailed
  split
  · exact .refl s
  · split
    · exact ((s.failWaiters_grows ..).of_tally (State.setEntry_tally ..)).trans (State.strandingEffects_grows ..)
    all_goals exact .refl s

theorem State.writeFailed_grows (s : State) (e : EntryNo) : s.Grows (s.writeFailed e) := by
  unfold State.writeFailed
  split
  · exact .refl s
  · split
    · refine State.Grows.trans ?_ (State.strandingEffects_grows ..)
      exact State.grows_of_tally rfl
    all_goals exact .refl s

theorem State.fetchOk_grows (s : State) (e : EntryNo) (m : Nat) : s.Grows (s.fetchOk e m) := by
  unfold State.fetchOk
  split
  · exact (s.fetched_grows e m).of_tally (State.retrySucceeded_tally ..)
  · exact .refl s

theorem State.writeOk_grows (s : State) (e : EntryNo) : s.Grows (s.writeOk e) := by
  unfold State.writeOk
  split
  · exact State.grows_of_tally (by simp)
  · exact .refl s

theorem State.passCompleted_grows (s : State) (r : TagRecord) (id : UpId) (link : Nat) (ok : Bool) (data : BitVec 512) :
    s.Grows (s.passCompleted r id link ok data) := by
  unfold State.passCompleted
  dsimp only
  split
  · exact (s.answerDone_grows ..).of_tally (State.armingChecks_tally _)
  · exact (s.answerFailure_grows ..).of_tally (State.armingChecks_tally _)

theorem State.arrive_grows (s : State) (g : Tag) (ok : Bool) (data : BitVec 512) : s.Grows (s.arrive g ok data) := by
  have hfree : s.Grows (s.setTag g none) := State.grows_of_tally rfl
  obtain ⟨-, h⟩ | ⟨r, -, ⟨id, link, -, h⟩ | ⟨e, -, h⟩ | ⟨k, -, h⟩⟩ := s.arrive_cases g ok data <;> rw [h]
  · exact .refl s
  · exact hfree.trans (State.passCompleted_grows ..)
  · refine hfree.trans ?_
    unfold State.tableResponse
    repeat' split
    · exact State.grows_of_tally rfl
    · exact State.fetchOk_grows ..
    · exact State.fetchFailed_grows ..
    · exact State.writeOk_grows ..
    · exact State.writeFailed_grows ..
  · refine hfree.trans ?_
    unfold State.snapResponse
    repeat' split
    · exact .refl _
    · exact State.destinationWritten_grows ..
    · exact State.destinationFailed_grows ..

/-! ### Grants (R43, R120) -/

/-- A grant to PASS takes the head request into a list with room (R43). -/
theorem State.grantPass_grows (h : s.passClaim ≠ none) (g : Tag) : s.Grows (s.grantPass g) := by
  unfold State.grantPass
  split
  · exact .refl s
  · rename_i r rest hchan
    have hmay : s.mayTake r = true := by
      by_contra hno
      exact h (State.takeHead_not_may hchan (by simpa using hno)).2
    have hroom : (({ s with channel := rest } : State).list r.id).records.length < 8 := (State.mayTake_iff.mp hmay).1
    have htaken : s.Grows { s with channel := rest } := State.grows_of_tally rfl
    exact (htaken.trans (State.appendRecord_grows hroom 0)).of_tally rfl

theorem State.grant_grows (s : State) : s.Grows s.grant := by
  obtain h | ⟨c, g, hc, -, h⟩ := s.grant_cases <;> rw [h]
  · exact .refl s
  · have hptr : ∀ b, s.Grows { s with arbPtr := c, secondGrant := b } := fun _ => State.grows_of_tally rfl
    have hel := State.chosen_eligible hc
    cases c with
    | pass =>
      have hclaim : s.passClaim ≠ none := fun hno => by simp [State.eligible, State.claims, hno] at hel
      exact (hptr _).trans (State.grantPass_grows (s := { s with arbPtr := .pass, secondGrant := _ }) hclaim g)
    | table => exact (hptr _).of_tally (State.grantTable_tally _ g)
    | snap => exact (hptr _).of_tally (State.grantSnap_tally _ g)

/-! ### The end of a happening -/

theorem retries_grows (a b : State) : b.Grows (retries a b) := by
  have hcount : b.Grows { b with choice := b.choice + 1 } := State.grows_of_tally rfl
  unfold retries
  dsimp only
  repeat' split
  · exact hcount.trans ((State.walkStep_grows _).trans (State.retryHold_grows _))
  · exact hcount.trans ((State.retryHold_grows _).trans (State.walkStep_grows _))
  · exact b.retryHold_grows
  · exact b.walkStep_grows
  · exact .refl b

theorem rounds_grows (n : Nat) (a b : State) : b.Grows (rounds n a b) := by
  induction n generalizing a b with
  | zero => exact .refl b
  | succ n ih =>
    have hpressed : b.Grows (retries a b).pressureAct := (retries_grows a b).of_tally (State.pressureAct_tally _)
    have haged : b.Grows (retries a b).pressureAct.ageCheck := hpressed.of_tally (State.ageCheck_tally _)
    unfold rounds
    dsimp only
    split <;> split
    · exact haged.trans (ih _ _)
    · exact haged
    · exact hpressed.trans (ih _ _)
    · exact hpressed

theorem State.answerOffline_grows (s : State) : s.Grows s.answerOffline := by
  unfold State.answerOffline
  generalize List.finRange 256 = l
  refine State.foldl_grows (fun a e => ?_) l s
  split
  · exact a.failWaiters_grows ..
  · exact .refl a

theorem State.clearCheck_grows (s : State) : s.Grows s.clearCheck := by
  unfold State.clearCheck
  split
  · refine s.answerOffline_grows.trans ?_
    unfold State.softClear
    generalize s.answerOffline = u
    exact ⟨fun _ => .refl _, fun _ => Nat.zero_le _, fun _ => Nat.zero_le _, fun _ => Nat.zero_le _⟩
  · exact .refl s

theorem settle_grows (a b : State) : b.Grows (settle a b) := by
  have hordered : b.Grows (orderFlushes a (rounds roundLimit a b).drainChecks.flushAllCheck) :=
    (rounds_grows roundLimit a b).of_tally (by simp)
  exact (hordered.trans (State.clearCheck_grows _)).of_tally (by simp [settle])

theorem State.nextHappening_grows (h : s.nextHappening = some t) : s.Grows t := by
  have hcount : s.Grows { s with choice := s.choice + 1 } := State.grows_of_tally rfl
  rcases State.nextHappening_cases h with ⟨ht, -⟩ | ⟨-, -, rfl⟩ | ⟨-, ht | rfl⟩
  · exact State.takeHead_grows ht
  · exact s.grant_grows
  · exact hcount.trans (State.takeHead_grows ht)
  · exact hcount.trans (State.grant_grows _)

theorem finish_grows (a b : State) : b.Grows (finish a b) :=
  follow_induct (P := b.Grows)
    (fun _ t hs ht => (hs.trans (State.nextHappening_grows ht)).trans (settle_grows _ t)) _ _ (settle_grows a b)

end Sys2Proof.Machine
end

section
/-!
SUPPORT. The response order lists and the bounded counts through a command: every command lets them grow (`State.Grows`) but
a hard reset, which empties them, and a delivery, which first removes the head record of the presented ID.
-/

namespace Sys2Proof.Machine

variable {s : State}

/-! ### Commands of the management port -/

theorem State.endFrame_grows {run : State → Reply} (h : ∀ u : State, u.Grows (run u).st) (s : State) (code : Byte) :
    s.Grows (s.endFrame code run) := by
  have hcounted : s.Grows s.counted := State.grows_of_tally rfl
  cases ht : s.takesCommand with
  | true =>
    rw [State.endFrame_taken ht]
    exact (hcounted.trans (h _)).of_tally rfl
  | false =>
    rw [State.endFrame_dropped ht]
    exact State.grows_of_tally rfl

theorem withWindow_grows {run : WinNo → Reply} (h : ∀ w, s.Grows (run w).st) (w : BitVec 8) :
    s.Grows (withWindow w s run).st := by
  unfold withWindow
  split
  · exact h _
  · exact .refl s

theorem State.windowLoad_grows (s : State) (a : LoadArgs) : s.Grows (s.windowLoad a).st := by
  refine withWindow_grows (fun w => State.grows_of_tally ?_) a.window
  repeat' split
  all_goals rfl

theorem State.windowArm_grows (s : State) (w : BitVec 8) : s.Grows (s.windowArm w).st := by
  refine withWindow_grows (fun w => State.grows_of_tally ?_) w
  split
  case h_1 | h_2 => exact State.armingCheck_tally _ w
  all_goals rfl

theorem State.windowDrain_grows (s : State) (w : BitVec 8) : s.Grows (s.windowDrain w).st := by
  refine withWindow_grows (fun w => State.grows_of_tally ?_) w
  repeat' split
  case isFalse.isFalse => exact State.drainStart_tally _ w
  all_goals rfl

theorem State.windowRelease_grows (s : State) (w : BitVec 8) : s.Grows (s.windowRelease w).st := by
  refine withWindow_grows (fun w => State.grows_of_tally ?_) w
  split <;> rfl

/-- A snapshot begins with an empty exception list, and its first walk step (R130). -/
theorem State.snapshotBegin_grows (s : State) (b : SnapJob) : s.Grows (s.snapshotBegin b) := by
  refine State.Grows.trans ?_ (State.walkStep_grows _)
  exact ⟨fun _ => .refl _, fun _ => Nat.zero_le _, id, id⟩

theorem State.snapshotStart_grows (s : State) (a : StartArgs) : s.Grows (s.snapshotStart a).st := by
  refine withWindow_grows (fun w => ?_) a.window
  dsimp only
  repeat' split
  case isFalse.isFalse.isFalse.isFalse => exact s.snapshotBegin_grows _
  all_goals exact .refl s

theorem State.snapshotAbort_grows (s : State) : s.Grows s.snapshotAbort.st := by
  unfold State.snapshotAbort
  split
  · exact (s.leaveRunning_grows .aborted).of_tally (State.endCheck_tally _)
  all_goals exact .refl s

theorem State.faultRead_grows (s : State) : s.Grows s.faultRead.st :=
  ⟨fun _ => .refl _, id, id, fun _ => Nat.zero_le _⟩

theorem State.retryWindow_grows (s : State) (w : BitVec 8) : s.Grows (s.retryWindow w).st := by
  refine withWindow_grows (fun w => State.grows_of_tally ?_) w
  split
  · exact s.reenterAll_tally w
  · rfl

theorem State.discardWindow_grows (s : State) (w : BitVec 8) : s.Grows (s.discardWindow w).st := by
  refine withWindow_grows (fun w => State.grows_of_tally ?_) w
  repeat' split
  case isFalse.isFalse => exact (State.faultExit_tally _ w).trans (s.freeEntries_tally _)
  all_goals rfl

theorem State.alertPop_grows (s : State) : s.Grows s.alertPop.st := by
  refine ⟨fun _ => .refl _, id, fun hs => le_trans ?_ hs, id⟩
  show (s.alerts.drop 1).length ≤ _
  rw [List.length_drop]
  exact Nat.sub_le _ _

theorem State.flushAllCommand_grows (s : State) : s.Grows s.flushAllCommand.st := by
  unfold State.flushAllCommand
  split
  · exact .refl s
  · exact State.grows_of_tally s.flushAllStart_tally

theorem State.setLowMark_grows (s : State) (v : BitVec 32) : s.Grows (s.setLowMark v).st := by
  unfold State.setLowMark
  split <;> exact State.grows_of_tally rfl

theorem State.setFlushAge_grows (s : State) (v : BitVec 32) : s.Grows (s.setFlushAge v).st := by
  unfold State.setFlushAge
  split <;> exact State.grows_of_tally rfl

theorem State.setPrescaler_grows (s : State) (v : BitVec 32) : s.Grows (s.setPrescaler v).st := by
  unfold State.setPrescaler
  repeat' split
  all_goals exact State.grows_of_tally rfl

theorem State.setEnables_grows (s : State) (v : BitVec 32) : s.Grows (s.setEnables v).st := by
  unfold State.setEnables
  split <;> exact State.grows_of_tally rfl

theorem State.entryReadReply_grows (s : State) (r : EntryRef) : s.Grows (s.entryReadReply r).st := by
  cases r with
  | byNumber e => exact .refl s
  | byCounter w i => exact withWindow_grows (fun w => State.grows_of_tally (by split <;> rfl)) w

theorem State.softResetFrame_grows (s : State) : s.Grows s.softResetFrame := by
  have hcounted : s.Grows s.counted := State.grows_of_tally rfl
  unfold State.softResetFrame State.softBegin
  dsimp only
  split
  · split
    · exact (hcounted.trans (State.answerFailure_grows ..)).of_tally rfl
    · exact State.grows_of_tally rfl
  · exact State.grows_of_tally rfl

/-! ### Every command -/

/-- What a command itself makes of the lists before the end of its happening: a delivery removes a record (R51). -/
def State.delivered (s : State) (c : Instr) : State :=
  if c = .responseDelivery then s.deliver else s

/-- Every command but a hard reset lets the lists and counts grow, from the state that a delivery leaves. -/
theorem exec_grows {c : Instr} (hc : c ≠ .hardReset) (s : State) :
    ∃ t, exec c s = .next t ∧ (s.delivered c).Grows t := by
  have hend : ∀ u : State, s.Grows u → s.Grows (finish s u) := fun u hu => hu.trans (finish_grows s u)
  have hsame : ∀ u : State, u.tally = s.tally → s.Grows (finish s u) := fun u hu => hend u (State.grows_of_tally hu)
  have hframe : ∀ code run, (∀ u : State, u.Grows (run u).st) → s.Grows (s.endFrame code run) :=
    fun code run hrun => State.endFrame_grows hrun s code
  cases c <;> refine ⟨_, rfl, ?_⟩
  case hardReset => exact absurd rfl hc
  case responseDelivery => exact finish_grows s s.deliver
  case requestTaken | downstreamRequestAccepted | rstNReleased => exact hsame _ rfl
  case holdSlotRetry => exact hend _ s.retryHold_grows
  case downstreamGrant => exact hend _ s.grant_grows
  case passThroughCompletion | fetchReturn | writeBackReturn | fetchError | writeBackError | destinationWriteReturn
      | destinationWriteError | tableResponseAbsorbed | snapResponseAbsorbed | orphanResponse =>
    exact hend _ (s.arrive_grows ..)
  case windowBecomesActive w => exact hsame _ (s.armingCheck_tally w)
  case windowQuiesce w => exact hsame _ (s.drainCheck_tally w)
  case tickAdvance =>
    show s.Grows (if s.rstAsserted then s else finish s s.tickOnce)
    split
    · exact .refl s
    · exact hsame _ s.tickOnce_tally
  case frameStart =>
    show s.Grows s.startFrame
    unfold State.startFrame
    split <;> exact State.grows_of_tally rfl
  case frameWithoutCommand | nop => exact State.grows_of_tally (s := s) rfl
  case frameBusy =>
    show s.Grows s.busyFrame
    unfold State.busyFrame
    repeat' split
    all_goals exact State.grows_of_tally rfl
  case unassignedCommand | paramGet | mgmtStatus | snapshotStatus =>
    exact hframe _ _ fun _ => State.grows_of_tally rfl
  case windowLoad a => exact hend _ (hframe _ _ fun u => u.windowLoad_grows a)
  case windowArm w => exact hend _ (hframe _ _ fun u => u.windowArm_grows w)
  case windowDrain w => exact hend _ (hframe _ _ fun u => u.windowDrain_grows w)
  case windowRelease w => exact hend _ (hframe _ _ fun u => u.windowRelease_grows w)
  case windowStatus w => exact hframe _ _ fun u => withWindow_grows (fun _ => .refl u) w
  case snapshotStart a => exact hend _ (hframe _ _ fun u => u.snapshotStart_grows a)
  case snapshotAbort => exact hend _ (hframe _ _ State.snapshotAbort_grows)
  case snapshotComplete => exact hsame _ s.completionCheck_tally
  case snapshotEnd => exact hsame _ s.endCheck_tally
  case walkRetry => exact hend _ s.retryWalk_grows
  case faultRead => exact hframe _ _ State.faultRead_grows
  case retry w => exact hend _ (hframe _ _ fun u => u.retryWindow_grows w)
  case discard w => exact hend _ (hframe _ _ fun u => u.discardWindow_grows w)
  case alertPop => exact hframe _ _ State.alertPop_grows
  case flushAll => exact hend _ (hframe _ _ State.flushAllCommand_grows)
  case flushAllComplete => exact hsame _ s.flushAllCheck_tally
  case paramSetLowMark v => exact hend _ (hframe _ _ fun u => u.setLowMark_grows v)
  case paramSetFlushAge v => exact hframe _ _ fun u => u.setFlushAge_grows v
  case paramSetPrescaler v => exact hframe _ _ fun u => u.setPrescaler_grows v
  case paramSetEnables v => exact hframe _ _ fun u => u.setEnables_grows v
  case entryRead r => exact hframe _ _ fun u => u.entryReadReply_grows r
  case softReset => exact hend _ s.softResetFrame_grows
  case softResetClearing => exact hend _ s.clearCheck_grows
  case softResetEnd => exact hsame _ s.finishCheck_tally

/-! ### Deliveries (R51) -/

/-- A delivery removes the head record of the presented ID's list, and no other list changes. -/
theorem State.list_deliver (s : State) (id : UpId) :
    s.deliver.list id = { s.list id with
      records := (s.list id).records.drop (if s.presented = some id then 1 else 0) } := by
  unfold State.deliver
  cases hp : s.presented with
  | none => rfl
  | some j =>
    show (s.setList j _).list id = _
    rw [State.list_setList]
    by_cases hj : j = id
    · subst hj
      simp
    · simp [hj]

theorem State.deliver_withinBounds (hs : s.withinBounds) : s.deliver.withinBounds := by
  obtain ⟨hfresh, hdepth, hrest⟩ := hs
  refine ⟨fun id r hr => ?_, fun id => ?_, ?_⟩
  · rw [State.list_deliver] at hr ⊢
    exact hfresh id r (List.mem_of_mem_drop hr)
  · rw [State.list_deliver, List.length_drop]
    exact (Nat.sub_le ..).trans (hdepth id)
  · unfold State.deliver
    split <;> exact hrest

theorem State.hardReset_withinBounds (s : State) : s.hardReset.withinBounds := by
  have hlist : ∀ id, s.hardReset.list id = { records := [], nextKey := 0 } := fun _ => Vector.getElem_replicate _
  refine ⟨fun id r hr => ?_, fun id => ?_, Nat.zero_le _, Nat.zero_le _, Nat.zero_le _⟩
  · simp [hlist] at hr
  · simp [hlist]

theorem State.clockCycle_grows (s : State) : s.Grows s.clockCycle := by
  unfold State.clockCycle
  repeat' split
  · exact .refl s
  · exact State.grows_of_tally rfl
  · exact (State.grows_of_tally s.tickOnce_tally).trans (finish_grows _ _)

end Sys2Proof.Machine

open Sys2Proof Sys2Proof.Machine

/-- Settles O15: every command but a hard reset lets each response order list grow (`exec_grows`), from the state that a
delivery leaves. -/
theorem responsesStayInOrder : Obligations.ResponsesStayInOrder := by
  intro c s t hc hexec id
  obtain ⟨u, hu, hgrows⟩ := exec_grows hc s
  rw [hexec] at hu
  cases hu
  have horder := (hgrows.lists id).order
  by_cases hd : c = .responseDelivery
  · subst hd
    obtain ⟨kept, new, hsplit, hkept⟩ := horder
    refine ⟨kept, new, hsplit, ?_⟩
    rw [State.delivered, if_pos rfl, State.list_deliver, List.drop_zero] at hkept
    simpa using hkept
  · rw [State.delivered, if_neg hd] at horder
    simpa [hd] using horder

/-- Settles O56: what grows stays within the bounds (`State.Grows.withinBounds`); a delivery shortens a list, and a hard
reset empties them all. -/
theorem boundsKept : Obligations.BoundsKept := by
  intro s t hs hstep
  cases hp : s.pending with
  | nil =>
    rw [step_idle hp] at hstep
    cases hstep
    exact s.clockCycle_grows.withinBounds hs
  | cons c rest =>
    have hexec : exec c { s with pending := rest } = .next t := by
      unfold step at hstep
      rwa [hp] at hstep
    by_cases hc : c = .hardReset
    · subst hc
      cases hexec
      exact State.hardReset_withinBounds _
    · obtain ⟨u, hu, hgrows⟩ := exec_grows hc { s with pending := rest }
      rw [hexec] at hu
      cases hu
      refine hgrows.withinBounds ?_
      unfold State.delivered
      split
      · exact State.deliver_withinBounds (s := { s with pending := rest }) hs
      · exact hs

end

section
/-!
SUPPORT. The response arbiter, the retries of the hold slot, deliveries and the wide-read latch in words (R47, R51, R52, R56).
-/

namespace Sys2Proof.Machine

variable {s : State} {w : WinNo} {i j : Nat} {o : Operation} {id : UpId} {link : Nat}

/-! ### The response arbiter (R51, R52) -/

/-- The arbiter finds the ID nearest after its pointer of those that it looks for. -/
theorem find?_arbiterOrder {ptr id : UpId} {p : UpId → Bool} : (arbiterOrder ptr).find? p = some id ↔
    p id = true ∧ ∀ k : UpId, (k - (ptr + 1)).val < (id - (ptr + 1)).val → p k = false := by
  rw [arbiterOrder, List.find?_map, ← Fin.find?_eq_find?_finRange, Option.map_eq_some_iff]
  constructor
  · rintro ⟨n, hn, rfl⟩
    obtain ⟨hp, hbefore⟩ := Fin.find?_eq_some_iff.mp hn
    refine ⟨hp, fun k hk => ?_⟩
    rw [add_sub_cancel_left] at hk
    simpa using hbefore (k - (ptr + 1)) hk
  · rintro ⟨hp, hbefore⟩
    refine ⟨id - (ptr + 1), Fin.find?_eq_some_iff.mpr ⟨?_, fun n hn => hbefore _ ?_⟩, add_sub_cancel _ _⟩
    · simpa using hp
    · rw [add_sub_cancel_left]
      exact hn

theorem State.headReady_iff : s.headReady id = true ↔
    ∃ r rest a, (s.list id).records = r :: rest ∧ r.answer = some a := by
  unfold State.headReady
  cases (s.list id).records <;> simp [Option.isSome_iff_exists]

theorem State.responseOut_iff {a : Answer} : s.responseOut = some (id, a) ↔
    s.presented = some id ∧ ∃ r rest, (s.list id).records = r :: rest ∧ r.answer = some a := by
  unfold State.responseOut
  cases hp : s.presented with
  | none => simp
  | some k =>
    dsimp only
    cases hr : (s.list k).records with
    | nil =>
      simp only [reduceCtorEq, Option.some.injEq, false_iff]
      rintro ⟨rfl, r, rest, hl, -⟩
      simp [hr] at hl
    | cons r rest =>
      simp only [Option.map_eq_some_iff, Prod.mk.injEq, Option.some.injEq]
      constructor
      · rintro ⟨b, hb, rfl, rfl⟩
        exact ⟨rfl, r, rest, hr, hb⟩
      · rintro ⟨rfl, q, rest', hl, ha⟩
        rw [hr] at hl
        cases hl
        exact ⟨a, ha, rfl, rfl⟩

/-! ### Retries and deliveries (R47, R51) -/

theorem State.retryHold_empty (h : s.hold = none) : s.retryHold = s := by
  simp only [State.retryHold, h]

theorem State.retryHold_settles {t : State} {h : Held} (hh : s.hold = some h)
    (ht : s.treat h.decoded h.request.id h.link = .settled t) : s.retryHold = { t with hold := none } := by
  simp only [State.retryHold, hh, ht]

theorem State.retryHold_waits {h : Held} {why : HoldReason} (hh : s.hold = some h)
    (ht : s.treat h.decoded h.request.id h.link = .waits why) :
    s.retryHold = { s with hold := some { h with reason := why } } := by
  simp only [State.retryHold, hh, ht]

theorem State.deliver_presented (h : s.presented = some id) :
    s.deliver = { s.setList id { records := (s.list id).records.tail, nextKey := (s.list id).nextKey } with
      presented := none } := by
  simp only [State.deliver, h, List.drop_one]

theorem State.deliver_idle (h : s.presented = none) : s.deliver = s := by
  simp only [State.deliver, h]

/-! ### The happenings of a retry (R47) -/

section Happenings

variable {a b : State}

theorem becameStranded_iff :
    becameStranded a b = true ↔ ∃ e, isStranded (a.entry e) = false ∧ isStranded (b.entry e) = true := by
  simp [becameStranded]

theorem entryFreed_iff : entryFreed a b = true ↔ ∃ e, a.entry e ≠ none ∧ b.entry e = none := by
  simp [entryFreed, Option.isSome_iff_ne_none]

theorem joinedClean_iff : joinedClean a b = true ↔ ∃ e, e ∈ b.clean ∧ e ∉ a.clean := by
  simp [joinedClean]

theorem exceptionLeft_iff : exceptionLeft a b = true ↔ ∃ k, k ∈ a.snap.exceptions ∧ k ∉ b.snap.exceptions := by
  simp [exceptionLeft]

theorem Body.isFetch_iff {x : Body} : x.isFetch = true ↔ ∃ d m q, x = .fetch d m q := by
  cases x <;> simp [Body.isFetch]

theorem State.counterInFetch_iff : s.counterInFetch w i = true ↔ s.fetching w i := by
  unfold State.counterInFetch State.fetching
  cases hl : s.lookup w i with
  | none => simp [State.counterEntry_of_lookup_none hl]
  | some e =>
    rw [State.counterEntry_of_lookup_some hl]
    cases hx : s.entry e <;> simp [hx, Body.isFetch_iff]

theorem leftFetch_iff : leftFetch a b w i = true ↔ a.fetching w i ∧ ¬ b.fetching w i := by
  rw [leftFetch, Bool.and_eq_true, Bool.not_eq_true', ← Bool.not_eq_true, State.counterInFetch_iff,
    State.counterInFetch_iff]

theorem SnapState.isRunning_iff {p : SnapState} : p.isRunning = true ↔ ∃ l, p = .running l := by
  cases p <;> simp [SnapState.isRunning]

theorem leftRunning_iff : leftRunning a b = true ↔
    (∃ l, a.snap.state = .running l) ∧ ∀ l, b.snap.state ≠ .running l := by
  rw [leftRunning, Bool.and_eq_true, Bool.not_eq_true', ← Bool.not_eq_true, SnapState.isRunning_iff,
    SnapState.isRunning_iff, not_exists]

/-- A slot has been FREE meanwhile: it was taken, and is FREE or out of WRITING now (R127). -/
theorem slotReturned_iff {x y : Slot} : slotReturned x y = true ↔
    x ≠ .free ∧ (y = .free ∨ (∃ j v g, x = .writing j v g) ∧ ∀ j v g, y ≠ .writing j v g) := by
  cases x <;> cases y <;> simp [slotReturned]

theorem slotFreed_iff : slotFreed a b = true ↔ ∃ k, a.slot k ≠ .free ∧
    (b.slot k = .free ∨ (∃ j v g, a.slot k = .writing j v g) ∧ ∀ j v g, b.slot k ≠ .writing j v g) := by
  simp only [slotFreed, List.any_eq_true, List.mem_finRange, true_and, slotReturned_iff]

/-- What the reason of the held request waits for has happened. -/
theorem holdDue_iff : holdDue a b = true ↔ ∃ h, b.hold = some h ∧
    ((a.window h.decoded.window).state ≠ (b.window h.decoded.window).state ∨ becameStranded a b = true ∨
      (h.reason = .noEntry ∧ (entryFreed a b = true ∨ joinedClean a b = true)) ∨
      (h.reason = .noWaiter ∧
        (a.freeWaiters < b.freeWaiters ∨ leftFetch a b h.decoded.window h.decoded.index = true)) ∨
      (h.reason = .noExceptionPlace ∧ (exceptionLeft a b = true ∨ leftRunning a b = true)) ∨
      (h.reason = .noCaptureSlot ∧ (slotFreed a b = true ∨ leftRunning a b = true))) := by
  unfold holdDue
  cases b.hold with
  | none => simp
  | some h =>
    simp only [Option.some.injEq, exists_eq_left', Bool.or_eq_true, decide_eq_true_eq, or_assoc]
    cases h.reason <;> simp [waiterReturned]

end Happenings

/-! ### The wide-read latch (R54 to R56) -/

theorem State.latchServe_filled {upper : Nat} (hk : o.kind = .read) (h1 : 1 ≤ o.lane) (hj : j ≤ o.lane)
    (hfit : o.lane + o.lanes ≤ (s.config w).width.lanes) (hl : s.latch id = .filled w i j upper) :
    s.latchServe w i o id link = some (s.answerDone id link (laneBytes upper (o.lane - j) (4 * o.lanes))) := by
  simp only [State.latchServe, hk, h1, hl, hj, hfit, and_self, if_true]

theorem State.latchServe_pending {src : Nat} (hk : o.kind = .read) (h1 : 1 ≤ o.lane) (hj : j ≤ o.lane)
    (hfit : o.lane + o.lanes ≤ (s.config w).width.lanes) (hl : s.latch id = .pending w i j src) :
    s.latchServe w i o id link =
      some (s.setList id { s.list id with records := linkRecord link src (s.list id).records }) := by
  simp only [State.latchServe, hk, h1, hl, hj, hfit, and_self, if_true]

/-- What the latch serves is settled by it (R45, step 4). -/
theorem State.offer_of_served {t : State} (h : s.latchServe w i o id link = some t) : s.offer w i o id link = .settled t := by
  simp only [State.offer, h]

/-- Lanes of the latched part of a value are lanes of the value. -/
theorem laneBytes_latched (v : Nat) {lane : Nat} (h : j ≤ lane) (n : Nat) :
    laneBytes (v / 2 ^ (32 * j)) (lane - j) n = bytesLE n (v / 2 ^ (32 * lane)) := by
  rw [laneBytes, Nat.div_div_eq_div_mul, ← pow_add]
  congr 3
  omega

end Sys2Proof.Machine

open Sys2Proof Sys2Proof.Machine

/-- Settles O14: the arbiter's search finds the nearest ID after its pointer (`find?_arbiterOrder`). -/
theorem arbiterPresentsNextReady : Obligations.ArbiterPresentsNextReady := by
  refine ⟨fun s hp => ?_, fun s hp => ?_, fun s id => State.headReady_iff, fun s id a => State.responseOut_iff⟩
  · unfold State.chooseResponse
    rw [hp]
    cases hfind : (arbiterOrder s.respPtr).find? s.headReady with
    | none =>
      refine ⟨fun id hid => ?_, fun _ k => ?_⟩
      · simp [hp] at hid
      · exact Bool.eq_false_iff.mpr (List.find?_eq_none.mp hfind k (mem_arbiterOrder _ k))
    | some n =>
      refine ⟨fun id hid => ?_, fun h => by cases h⟩
      obtain rfl : n = id := Option.some.inj hid
      obtain ⟨hready, hbefore⟩ := find?_arbiterOrder.mp hfind
      exact ⟨hready, rfl, hbefore⟩
  · obtain ⟨id, hp⟩ := Option.ne_none_iff_exists'.mp hp
    simp only [State.chooseResponse, hp]

/-- Settles O13: the retry and the delivery by their cases, and the happenings of a retry each in words. -/
theorem holdRetryAndDelivery : Obligations.HoldRetryAndDelivery := by
  refine ⟨fun s => ⟨fun hh => ?_, fun h hh => ⟨fun t ht => ?_, fun why ht => ?_⟩⟩,
    fun s => ⟨fun id hp => ?_, fun hp => ?_⟩, fun a b => ?_⟩
  · exact next_finish_congr (State.retryHold_empty hh) s
  · exact next_finish_congr (State.retryHold_settles hh ht) s
  · exact next_finish_congr (State.retryHold_waits hh ht) s
  · exact next_finish_congr (State.deliver_presented hp) s
  · exact next_finish_congr (State.deliver_idle hp) s
  · simp only [holdDue_iff, becameStranded_iff, entryFreed_iff, joinedClean_iff, leftFetch_iff, exceptionLeft_iff,
      leftRunning_iff, slotFreed_iff]

/-- Settles O16: the latch serves by its state, and a report fills the latch of its source. -/
theorem latchServesHigherLanes : Obligations.LatchServesHigherLanes := by
  intro s w i j o id link hk h1 hj hfit
  refine ⟨fun v hl => ?_, fun src hl => ?_, fun src v hl => ?_⟩
  · rw [State.offer_of_served (State.latchServe_filled hk h1 hj hfit hl), laneBytes_latched v hj]
  · exact State.offer_of_served (State.latchServe_pending hk h1 hj hfit hl)
  · rw [State.latch_reportValue, hl]
    simp [Latch.reported]

end

section
/-!
SUPPORT. The grant of each claimant as a whole state (R88, R120, R139).
-/

namespace Sys2Proof.Machine

variable {s : State} {g : Tag}

/-- The arbiter's pointer and second-grant mark are set (R118, R119). -/
def State.pointed (s : State) (c : Claimant) (second : Bool) : State :=
  { s with arbPtr := c, secondGrant := second }

/-- With no claimant chosen a grant changes nothing (assumption 3). -/
theorem State.grant_idle (h : s.chosen = none) : s.grant = s := by
  simp only [State.grant, h]

theorem State.grant_table (hc : s.chosen = some .table) (hg : s.lowestTag = some g) :
    s.grant = (s.pointed .table !s.secondGrantDue).grantTable g := by
  simp only [State.grant, hc, hg]
  cases s.secondGrantDue <;> rfl

theorem State.grant_snap (hc : s.chosen = some .snap) (hg : s.lowestTag = some g) :
    s.grant = (s.pointed .snap false).grantSnap g := by
  simp only [State.grant, hc, hg]
  cases s.secondGrantDue <;> rfl

theorem State.grant_pass (hc : s.chosen = some .pass) (hg : s.lowestTag = some g) :
    s.grant = (s.pointed .pass false).grantPass g := by
  simp only [State.grant, hc, hg]
  cases s.secondGrantDue <;> rfl

/-- The TABLE grant of a fetch. -/
theorem State.grantTable_fetch {e : EntryNo} {rest : List EntryNo} {x : Entry} {d : Nat} {m : Bool} {q : FetchCause}
    (hi : s.issue = e :: rest) (hx : s.entry e = some x) (hb : x.body = .fetch d m q) (g : Tag) :
    s.grantTable g = ({ s with issue := rest } : State).issueRequest (.table e)
      (wholeRead g ((s.config x.window).counterAddr x.index) (s.config x.window).width.bytes) := by
  simp only [State.grantTable, hi, hx, hb]

/-- The TABLE grant of a write-back (R88). -/
theorem State.grantTable_write {e : EntryNo} {rest : List EntryNo} {x : Entry} {v : Nat} {r : Bool}
    (hi : s.issue = e :: rest) (hx : s.entry e = some x) (hb : x.body = .write v r) (g : Tag) :
    s.grantTable g = (({ s with issue := rest } : State).setEntry e
        (some { x with body := .write v false, dirtySince := none })).issueRequest (.table e)
      (wholeWrite g ((s.config x.window).counterAddr x.index) (s.config x.window).width.bytes v) := by
  have hx' : ({ s with issue := rest } : State).entry e = some x := hx
  simp only [State.grantTable, hi, hx, hb, State.writeGranted, State.mapEntry, hx']

/-- The SNAP grant of a captured slot (R139). -/
theorem State.grantSnap_captured {k : SlotNo} {rest : List SlotNo} {b : SnapJob} {j v : Nat}
    (ho : s.snap.writeOrder = k :: rest) (hb : s.snap.job = some b) (hk : s.slot k = .captured j v) (g : Tag) :
    s.grantSnap g =
      (let n := (s.config b.window).width.bytes
       let u := s.setSlot k (.writing j v g)
       ({ u with snap := { u.snap with writeOrder := rest } } : State).issueRequest (.snap k)
         (wholeWrite g (BitVec.ofNat 40 (b.dest.toNat + n * (j - b.first))) n v)) := by
  simp only [State.grantSnap, ho, hb, hk]

/-- The PASS grant of the head request (R43). -/
theorem State.grantPass_head {r : Request} {rest : List Request} (hc : s.channel = r :: rest) (g : Tag) :
    s.grantPass g = (({ s with channel := rest } : State).appendRecord r 0).issueRequest
      (.pass r.id (s.list r.id).nextKey) (passRequest g r) := by
  simp only [State.grantPass, hc]

/-- A pass-through request with its data and enables by its kind. -/
theorem passRequest_eq (g : Tag) (r : Request) : passRequest g r =
    { kind := r.kind, tag := g, addr := r.addr, size := r.size.bytes
      enables := if r.kind = .read then [] else (List.range r.size.bytes).map (fun k => r.enables.getLsbD k)
      data := if r.kind = .read then [] else bytesLE r.size.bytes r.data.toNat } := by
  unfold passRequest
  cases r.kind <;> rfl

end Sys2Proof.Machine

open Sys2Proof Sys2Proof.Machine

/-- Settles O31: the grant of the claimant chosen, by the head of its queue. -/
theorem grantIssues : Obligations.GrantIssues := by
  refine ⟨fun s => ⟨fun hc => ?_, ?_, ?_, ?_⟩, ?_, fun s => rfl⟩
  · exact next_finish_congr (State.grant_idle hc) s
  · intro g e rest x d m q hc hg hi hx hb
    have hgrant := State.grantTable_fetch (s := s.pointed .table !s.secondGrantDue) hi hx hb g
    exact next_finish_congr ((State.grant_table hc hg).trans hgrant) s
  · intro g e rest x v r hc hg hi hx hb
    have hgrant := State.grantTable_write (s := s.pointed .table !s.secondGrantDue) hi hx hb g
    exact next_finish_congr ((State.grant_table hc hg).trans hgrant) s
  · intro g k rest b j v hc hg ho hb hk
    have hgrant := State.grantSnap_captured (s := s.pointed .snap false) ho hb hk g
    exact next_finish_congr ((State.grant_snap hc hg).trans hgrant) s
  · intro s g r rest hc hg hr
    have hgrant := State.grantPass_head (s := s.pointed .pass false) hr g
    rw [passRequest_eq] at hgrant
    exact next_finish_congr ((State.grant_pass hc hg).trans hgrant) s

end

section
/-!
SUPPORT. The answers of a soft reset (R59, R93, R182): the held request and the waiting READs and TAKEs are answered OFFLINE,
and every other record stands.
-/

namespace Sys2Proof.Machine

variable {s : State} {id : UpId}

/-! ### Answers in words -/

/-- Answering twice is answering what either picks: a record keeps its first answer (R49). -/
theorem answerRecords_answerRecords (p q : Record → Bool) (how : Record → Answer) (rs : List Record) :
    answerRecords p how (answerRecords q how rs) = answerRecords (fun r => q r || p r) how rs := by
  unfold answerRecords
  rw [List.map_map]
  refine List.map_congr_left fun r _ => ?_
  rw [Function.comp_apply]
  cases hq : q r <;> cases ha : r.answer <;> simp [hq, ha]

theorem answerRecords_none (how : Record → Answer) (rs : List Record) : answerRecords (fun _ => false) how rs = rs := by
  simp [answerRecords]

theorem length_answerRecords (which : Record → Bool) (how : Record → Answer) (rs : List Record) :
    (answerRecords which how rs).length = rs.length :=
  List.length_map _

theorem State.records_reportFailure (s : State) (j id : UpId) (key : Nat) (st : UpStatus) :
    ((s.reportFailure j key st).list id).records = if j = id then
      answerRecords (Record.takesResult key) (fun r => r.failure st) (s.list id).records else (s.list id).records := by
  have hset : (s.reportFailure j key st).list id = (s.setList j { s.list j with
      records := answerRecords (Record.takesResult key) (fun r => r.failure st) (s.list j).records }).list id := by
    unfold State.reportFailure
    dsimp only
    split
    · split <;> rfl
    all_goals rfl
  rw [hset, State.list_setList]
  split
  · subst_vars
    rfl
  · rfl

/-! ### Waiting READs and TAKEs (R93) -/

/-- The waiter is a READ or TAKE whose result the record of ID `id` takes (R50, R55). -/
def Waiter.owes (id : UpId) (r : Record) : Waiter → Bool
  | .op o j link => decide (j = id) && !o.kind.isPosted && r.takesResult link
  | .capture _ => false

theorem Waiter.owes_iff {r : Record} {y : Waiter} : y.owes id r = true ↔
    ∃ o link, y = .op o id link ∧ (o.kind = .read ∨ o.kind = .take) ∧ r.takes link := by
  cases y with
  | op o j link =>
    simp only [Waiter.owes, Bool.and_eq_true, decide_eq_true_eq, Bool.not_eq_true', OpKind.isPosted_eq_false,
      Record.takesResult_iff, and_assoc]
    constructor
    · rintro ⟨rfl, hk, ht⟩
      exact ⟨o, link, rfl, hk, ht⟩
    · rintro ⟨o', link', h, hk, ht⟩
      cases h
      exact ⟨rfl, hk, ht⟩
  | capture k => simp [Waiter.owes]

/-- The failure of a list of waiters answers the records of its READs and TAKEs, and their dependents. -/
theorem State.records_failWaiters (s : State) (ws : List Waiter) (st : UpStatus) (id : UpId) :
    ((s.failWaiters ws st).list id).records =
      answerRecords (fun r => ws.any (Waiter.owes id r)) (fun r => r.failure st) (s.list id).records := by
  induction ws generalizing s with
  | nil => exact (answerRecords_none _ _).symm
  | cons y ys ih =>
    simp only [List.any_cons, ← answerRecords_answerRecords]
    refine (ih _).trans (congrArg _ ?_)
    cases y with
    | capture k => exact (answerRecords_none _ _).symm
    | op o j link =>
      cases hp : o.kind.isPosted with
      | true => simp [hp, Waiter.owes, answerRecords_none]
      | false =>
        by_cases hj : j = id
        · simp [hp, hj, Waiter.owes, State.records_reportFailure]
        · simp [hp, hj, Waiter.owes, State.records_reportFailure, answerRecords_none]

/-- The waiters of an entry's place. -/
def State.waitersAt (s : State) (e : EntryNo) : List Waiter :=
  match s.entry e with
  | some x => x.waiters
  | none => []

theorem State.mem_waitersAt {e : EntryNo} {y : Waiter} :
    y ∈ s.waitersAt e ↔ ∃ x, s.entry e = some x ∧ y ∈ x.waiters := by
  unfold State.waitersAt
  cases s.entry e <;> simp

/-- The waiters of the table, in ascending entry number and list order. -/
def State.tableWaiters (s : State) : List Waiter :=
  (List.finRange 256).flatMap s.waitersAt

theorem State.answerOffline_eq (s : State) : s.answerOffline = s.failWaiters s.tableWaiters .offline := by
  unfold State.answerOffline State.tableWaiters
  conv_rhs => rw [State.failWaiters, List.foldl_flatMap]
  congr 1
  funext t e
  unfold State.waitersAt
  cases s.entry e <;> rfl

/-- A record that is owed an answer takes the result of some waiter of the table (R93). -/
theorem State.owesRecord_iff {r : Record} :
    s.owesRecord id r ↔ r.answer = none ∧ s.tableWaiters.any (Waiter.owes id r) = true := by
  refine and_congr_right fun _ => ?_
  simp only [List.any_eq_true, State.tableWaiters, List.mem_flatMap, List.mem_finRange, true_and, State.mem_waitersAt,
    Waiter.owes_iff]
  constructor
  · rintro ⟨e, x, k, hx, o, link, hk, ho, ht⟩
    exact ⟨_, ⟨e, x, hx, List.mem_iff_getElem?.mpr ⟨k, hk⟩⟩, o, link, rfl, ho, ht⟩
  · rintro ⟨_, ⟨e, x, hx, hy⟩, o, link, rfl, ho, ht⟩
    obtain ⟨k, hk⟩ := List.mem_iff_getElem?.mp hy
    exact ⟨e, x, k, hx, o, link, hk, ho, ht⟩

theorem State.softClear_list (s : State) (id : UpId) : s.softClear.list id = s.answerOffline.list id := by
  unfold State.softClear
  generalize s.answerOffline = u
  rfl

/-- The clearing answers the records that are owed OFFLINE, and leaves the others (R93). -/
theorem State.softClear_records (s : State) (id : UpId) :
    List.Forall₂ (fun r r' : Record =>
        (s.owesRecord id r → r' = { r with answer := some (r.failure .offline) }) ∧ (¬ s.owesRecord id r → r' = r))
      (s.list id).records (s.softClear.list id).records := by
  rw [State.softClear_list, State.answerOffline_eq, State.records_failWaiters, answerRecords, List.forall₂_map_right_iff,
    List.forall₂_same]
  intro r _
  have howes : s.owesRecord id r ↔ (s.tableWaiters.any (Waiter.owes id r) && r.answer.isNone) = true := by
    rw [State.owesRecord_iff, Bool.and_eq_true, Option.isNone_iff_eq_none, and_comm]
  exact ⟨fun h => if_pos (howes.mp h), fun h => if_neg (mt howes.mpr h)⟩

/-! ### The lists' emptiness -/

theorem State.listsEmpty_congr {t : State} (h : ∀ id, (t.list id).records.length = (s.list id).records.length) :
    t.listsEmpty = s.listsEmpty := by
  have hnil : ∀ id, (t.list id).records ≠ [] ↔ (s.list id).records ≠ [] := fun id => by
    rw [← List.length_pos_iff, h id, List.length_pos_iff]
  rw [Bool.eq_iff_iff, ← not_iff_not, Bool.not_eq_true, Bool.not_eq_true, State.listsEmpty_eq_false,
    State.listsEmpty_eq_false]
  exact exists_congr hnil

theorem State.softClear_listsEmpty (s : State) : s.softClear.listsEmpty = s.listsEmpty :=
  State.listsEmpty_congr fun id => (s.softClear_records id).length_eq.symm

/-- The held request is answered OFFLINE and leaves the hold slot (R59). -/
def State.unheld (s : State) (h : Held) : State :=
  { s.answerFailure h.request.id h.link .offline with hold := none }

theorem State.unheld_listsEmpty (s : State) (h : Held) : (s.unheld h).listsEmpty = s.listsEmpty := by
  refine State.listsEmpty_congr fun id => ?_
  show ((s.setList h.request.id _).list id).records.length = _
  rw [State.list_setList]
  split
  · subst_vars
    exact length_answerRecords ..
  · rfl

end Sys2Proof.Machine
end

section
/-!
SUPPORT. A soft reset from its first phase to its end (R182 to R184). A cleared part stays cleared through the ends of
happenings that follow: its windows match no request, and its lists and queues give nothing to retry, to flush or to grant
but the PASS claim.
-/

namespace Sys2Proof.Machine

variable {s t a b u : State}

/-! ### The command engine and the soft reset count -/

/-- The command engine and the soft reset count. -/
def State.sequence (s : State) :=
  (s.engine, s.softCount)

theorem State.sequence_eq {e : Engine} {n : Byte} : s.sequence = (e, n) ↔ s.engine = e ∧ s.softCount = n :=
  Prod.mk_inj

theorem State.sequence_of_fixed (h : t.fixed = s.fixed) : t.sequence = s.sequence := by
  simp only [State.fixed, Prod.mk.injEq] at h
  simp only [State.sequence, Prod.mk.injEq]
  tauto

theorem State.softRunning_of_sequence (h : t.sequence = s.sequence) : t.softRunning = s.softRunning := by
  have heng : t.engine = s.engine := congrArg Prod.fst h
  simp only [State.softRunning, heng]

theorem State.drainChecks_sequence (s : State) : s.drainChecks.sequence = s.sequence := by
  refine foldl_keeps State.sequence State.drainCheck (fun t w => ?_) _ s
  unfold State.drainCheck
  split <;> rfl

theorem State.flushAllCheck_sequence (s : State) : s.flushAllCheck.sequence = s.sequence := by
  unfold State.flushAllCheck
  split <;> rfl

theorem State.chooseResponse_sequence (s : State) : s.chooseResponse.sequence = s.sequence := by
  unfold State.chooseResponse
  repeat' split
  all_goals rfl

theorem State.takeHead_sequence (h : s.takeHead = some t) : t.sequence = s.sequence := by
  obtain ⟨r, rest, -, -, ⟨-, rfl⟩ | ⟨w, -, rfl⟩⟩ := State.takeHead_cases h
  · rfl
  · exact (State.sequence_of_fixed (State.takeCounter_fixed _ w r) :)

theorem State.grantPass_sequence (s : State) (g : Tag) : (s.grantPass g).sequence = s.sequence := by
  unfold State.grantPass
  split <;> rfl

theorem State.grantTable_sequence (s : State) (g : Tag) : (s.grantTable g).sequence = s.sequence := by
  unfold State.grantTable
  split
  · rfl
  · split
    · rfl
    · dsimp only
      split
      · rfl
      · exact (State.sequence_of_fixed (State.mapEntry_fixed ..) :)
      all_goals rfl

theorem State.grantSnap_sequence (s : State) (g : Tag) : (s.grantSnap g).sequence = s.sequence := by
  unfold State.grantSnap
  split
  · split <;> rfl
  · rfl

theorem State.grant_sequence (s : State) : s.grant.sequence = s.sequence := by
  obtain h | ⟨c, g, -, -, h⟩ := s.grant_cases <;> rw [h]
  cases c with
  | pass => exact State.grantPass_sequence _ g
  | table => exact State.grantTable_sequence _ g
  | snap => exact State.grantSnap_sequence _ g

theorem State.nextHappening_sequence (h : s.nextHappening = some t) : t.sequence = s.sequence := by
  rcases State.nextHappening_cases h with ⟨ht, -⟩ | ⟨-, -, rfl⟩ | ⟨-, ht | rfl⟩
  · exact State.takeHead_sequence ht
  · exact s.grant_sequence
  · exact (State.takeHead_sequence ht :)
  · exact State.grant_sequence { s with choice := s.choice + 1 }

theorem settle_sequence (a : State) (h : b.softRunning = false) : (settle a b).sequence = b.sequence := by
  have hseq : (orderFlushes a (rounds roundLimit a b).drainChecks.flushAllCheck).sequence = b.sequence := by
    rw [State.sequence_of_fixed (orderFlushes_fixed _ _), State.flushAllCheck_sequence, State.drainChecks_sequence]
    exact State.sequence_of_fixed (rounds_fixed _ _ _)
  have hsoft : (orderFlushes a (rounds roundLimit a b).drainChecks.flushAllCheck).softRunning = false :=
    (State.softRunning_of_sequence hseq).trans h
  simp only [settle, State.chooseResponse_sequence]
  rw [State.clearCheck_of_not_soft hsoft, State.finishCheck_of_not_soft hsoft, hseq]

/-- With no soft reset running the takings and grants that follow leave the engine and the soft reset count. -/
theorem follow_sequence (n : Nat) (h : s.softRunning = false) : (follow n s).sequence = s.sequence := by
  refine follow_induct (P := fun t => t.sequence = s.sequence) (fun u t hu ht => ?_) n s rfl
  have hseq : t.sequence = s.sequence := (State.nextHappening_sequence ht).trans hu
  exact (settle_sequence u ((State.softRunning_of_sequence hseq).trans h)).trans hseq

theorem finish_sequence (a : State) (h : b.softRunning = false) : (finish a b).sequence = b.sequence := by
  have hsettle := settle_sequence a h
  exact (follow_sequence _ ((State.softRunning_of_sequence hsettle).trans h)).trans hsettle

/-! ### The first phase (R110, R147, R182) -/

/-- In the first phase, with no request held, the retries, pressure and the age check change nothing. -/
theorem rounds_of_softInterval (hsoft : b.softInterval = true) (hhold : b.hold = none) :
    rounds roundLimit a b = b := by
  have hretry : retries a b = b := by
    simp [retries, holdDue_of_empty hhold, State.walkStep, hsoft]
  refine rounds_of_one hretry ?_ (holdDue_self b) (walkDue_self b)
  simp [State.pressureAct, State.ageCheck, hsoft]

theorem State.takeHead_of_softRunning (h : s.softRunning = true) : s.takeHead = none ∧ s.passClaim = none := by
  cases hc : s.channel with
  | nil => simp [State.takeHead, State.passClaim, hc]
  | cons r rest => exact State.takeHead_not_may hc (by simp [State.mayTake, h])

/-- The drain checks change windows that drain, and nothing else (R35). -/
theorem State.drainChecks_cases (s : State) : ∃ ws : Vector Window 16, s.drainChecks = { s with windows := ws } ∧
    ∀ w, (s.window w).state ≠ .draining → ws[w] = s.window w := by
  unfold State.drainChecks
  induction List.finRange 16 generalizing s with
  | nil => exact ⟨s.windows, rfl, fun _ _ => rfl⟩
  | cons v vs ih =>
    obtain ⟨ws, hws, hkeep⟩ := ih (s.drainCheck v)
    have hcheck : s.drainCheck v = { s with windows := (s.drainCheck v).windows } := by
      unfold State.drainCheck
      split <;> rfl
    have hwin : ∀ w, (s.window w).state ≠ .draining → (s.drainCheck v).window w = s.window w := fun w hw => by
      unfold State.drainCheck
      split
      · rename_i hd
        rw [State.window_setWinState, if_neg]
        rintro rfl
        exact hw hd.1
      · rfl
    refine ⟨ws, ?_, fun w hw => ?_⟩
    · rw [List.foldl_cons, hws, hcheck]
    · rw [hkeep w (by rw [hwin w hw]; exact hw), hwin w hw]

/-! ### A cleared part -/

/-- What the clearing leaves empty, and the alert sequence counter. -/
def State.blocks (s : State) :=
  (s.entries, s.dirty, s.clean, s.issue, s.windows, s.latches, s.snap, s.flushAllRunning, s.flushAllDone, s.carry,
    s.alerts, s.faults, s.alertSeq)

/-- The part is cleared, and the first phase is over. -/
structure State.Blank (s : State) : Prop where
  cleared : s.cleared
  phase : s.engine ≠ .executing .waitTags

theorem State.cleared_of_blocks (h : t.blocks = s.blocks) (hs : s.cleared) : t.cleared := by
  simp only [State.blocks, Prod.mk.injEq] at h
  obtain ⟨he, hd, hc, hi, hw, hl, hp, hr, hf, hcarry, ha, hfaults, -⟩ := h
  simp only [State.cleared, State.entry, State.window, State.latch, he, hd, hc, hi, hw, hl, hp, hr, hf, hcarry, ha,
    hfaults]
  exact hs

theorem State.alertSeq_of_blocks (h : t.blocks = s.blocks) : t.alertSeq = s.alertSeq :=
  congrArg (fun q => q.2.2.2.2.2.2.2.2.2.2.2.2) h

theorem State.softClear_blank (s : State) : s.softClear.Blank :=
  ⟨⟨fun _ => Vector.getElem_replicate _, rfl, rfl, rfl, s.softClear_window, fun _ => Vector.getElem_replicate _, rfl, rfl,
    rfl, rfl, rfl, rfl⟩, fun h => by cases h⟩

/-- The windows of a cleared part match no request, which is so outside (R24, R43). -/
theorem State.cleared_outside (h : s.cleared) (r : Request) : classify s.windows r = .outside := by
  obtain ⟨-, -, -, -, hw, -⟩ := h
  have hmiss : ∀ w, ∀ g, g ∉ (s.window w).matching := fun w g => by simp [hw w, Window.matching]
  rcases s.classify_cases r with ⟨w, -, g, hg, -⟩ | ⟨-, -, w, g, hg, -⟩ | ⟨hk, -⟩
  · exact absurd hg (hmiss w g)
  · exact absurd hg (hmiss w g)
  · exact hk

theorem State.cleared_takeHead (h : s.cleared) : s.takeHead = none :=
  State.takeHead_eq_none.mpr fun r _ _ _ => State.cleared_outside h r

/-- A cleared part grants to PASS alone, and to nobody while the soft reset runs (R59). -/
theorem State.cleared_chosen (h : s.cleared) {c : Claimant} (hc : s.chosen = some c) :
    c = .pass ∧ s.softRunning = false := by
  obtain ⟨-, -, -, hissue, -, -, hsnap, -⟩ := h
  have hel := State.chosen_eligible hc
  cases c with
  | table => simp [State.eligible, State.claims, State.tableClaim, hissue] at hel
  | snap => simp [State.eligible, State.claims, State.snapClaim, hsnap, Snapshot.reset] at hel
  | pass =>
    refine ⟨rfl, Bool.eq_false_iff.mpr fun hsoft => ?_⟩
    simp [State.eligible, State.claims, (State.takeHead_of_softRunning hsoft).2] at hel

theorem State.cleared_nextHappening (h : s.cleared) (hsoft : s.softRunning = true) : s.nextHappening = none := by
  refine State.nextHappening_none (State.cleared_takeHead h) ?_
  by_contra hne
  obtain ⟨c, hc⟩ := Option.ne_none_iff_exists'.mp hne
  rw [(State.cleared_chosen h hc).2] at hsoft
  cases hsoft

/-- A held request of a cleared part is retried with the answer OFFLINE (R47, assumption 17). -/
theorem State.cleared_retryHold (hb : b.cleared) {h : Held} (hh : b.hold = some h) : b.retryHold = b.unheld h := by
  refine State.retryHold_settles hh ?_
  obtain ⟨-, -, -, -, hw, -⟩ := hb
  simp only [State.treat, hw]

theorem State.cleared_pressureAct (h : s.cleared) : s.pressureAct = s := by
  obtain ⟨-, hdirty, hclean, -⟩ := h
  simp [State.pressureAct, hclean, hdirty, State.freeEntries, State.startFlushes]

theorem State.cleared_ageCheck (h : s.cleared) : s.ageCheck = s := by
  obtain ⟨-, hdirty, -⟩ := h
  simp [State.ageCheck, State.agedHeads, hdirty, State.startFlushes]

theorem State.cleared_walkDue (h : b.cleared) (a : State) : walkDue a b = false := by
  obtain ⟨-, -, -, -, -, -, hsnap, -⟩ := h
  simp [walkDue, hsnap, Snapshot.reset]

/-- What a cleared part's rounds do at most: the held request is answered. -/
theorem rounds_of_cleared (hb : b.cleared) (a : State) :
    rounds roundLimit a b = b ∨ ∃ h, b.hold = some h ∧ rounds roundLimit a b = b.unheld h := by
  have hact : ∀ r : State, r.cleared → ∀ left : Bool, (if left then r.pressureAct.ageCheck else r.pressureAct) = r :=
    fun r hr left => by
      rw [State.cleared_pressureAct hr, State.cleared_ageCheck hr, ite_self]
  cases hdue : holdDue a b with
  | false =>
    left
    have hretry : retries a b = b := by simp [retries, hdue, State.cleared_walkDue hb]
    exact rounds_of_one hretry (hact b hb _) (holdDue_self b) (walkDue_self b)
  | true =>
    right
    have hheld : b.hold ≠ none := fun hno => by simp [holdDue_of_empty hno] at hdue
    obtain ⟨h, hh⟩ := Option.ne_none_iff_exists'.mp hheld
    have hclear : (b.unheld h).cleared := State.cleared_of_blocks (s := b) rfl hb
    have hretry : retries a b = b.unheld h := by
      simp [retries, hdue, State.cleared_walkDue hb, State.cleared_retryHold hb hh]
    exact ⟨h, hh, rounds_of_one hretry (hact _ hclear _) (holdDue_of_empty rfl b) (State.cleared_walkDue hclear b)⟩

/-- The end of a happening in a cleared part: the held request may be answered, the soft reset may end, and a response is
presented. -/
theorem settle_of_blank (hb : b.Blank) (a : State) : ∃ r : State, (r = b ∨ ∃ h, b.hold = some h ∧ r = b.unheld h) ∧
    r.Blank ∧ settle a b = r.finishCheck.chooseResponse := by
  obtain ⟨r, hr, hround⟩ : ∃ r : State, (r = b ∨ ∃ h, b.hold = some h ∧ r = b.unheld h) ∧ rounds roundLimit a b = r := by
    rcases rounds_of_cleared hb.cleared a with h | ⟨h, hh, hu⟩
    · exact ⟨b, .inl rfl, h⟩
    · exact ⟨_, .inr ⟨h, hh, rfl⟩, hu⟩
  have hblank : r.Blank := by
    rcases hr with rfl | ⟨h, -, rfl⟩
    · exact hb
    · exact ⟨State.cleared_of_blocks (s := b) rfl hb.cleared, hb.phase⟩
  refine ⟨r, hr, hblank, ?_⟩
  obtain ⟨-, -, -, hissue, hw, -, -, hrun, -⟩ := hblank.cleared
  have hdrain : r.drainChecks = r := State.drainChecks_of_none_draining fun w => by simp [hw w]
  have hflush : r.flushAllCheck = r := by simp [State.flushAllCheck, hrun]
  have horder : orderFlushes a r = r := by
    have hnone : ({ r with issue := [] } : State) = r := by rw [← hissue]
    simpa [orderFlushes, hissue, refill] using hnone
  have hclear : r.clearCheck = r := if_neg fun h => hblank.phase h.1
  rw [settle, hround, hdrain, hflush, horder, hclear]

theorem State.chooseResponse_blocks (s : State) : s.chooseResponse.blocks = s.blocks := by
  unfold State.chooseResponse
  repeat' split
  all_goals rfl

theorem State.finishCheck_blocks (s : State) : s.finishCheck.blocks = s.blocks := by
  unfold State.finishCheck
  split <;> rfl

/-- The end of a soft reset and the response presented leave a cleared part cleared. -/
theorem State.Blank.closed (hs : s.Blank) :
    s.finishCheck.chooseResponse.Blank ∧ s.finishCheck.chooseResponse.alertSeq = s.alertSeq := by
  have hblocks : s.finishCheck.chooseResponse.blocks = s.blocks :=
    (State.chooseResponse_blocks _).trans s.finishCheck_blocks
  refine ⟨⟨State.cleared_of_blocks hblocks hs.cleared, ?_⟩, State.alertSeq_of_blocks hblocks⟩
  rw [State.chooseResponse_engine]
  unfold State.finishCheck
  split
  · exact fun h => by cases h
  · exact hs.phase

theorem settle_blank (hb : b.Blank) (a : State) : (settle a b).Blank ∧ (settle a b).alertSeq = b.alertSeq := by
  obtain ⟨r, hr, hblank, hsettle⟩ := settle_of_blank hb a
  have hseq : r.alertSeq = b.alertSeq := by
    rcases hr with rfl | ⟨h, -, rfl⟩ <;> rfl
  rw [hsettle, ← hseq]
  exact hblank.closed

/-- What falls at once in a cleared part is a grant to PASS. -/
theorem State.Blank.nextHappening (hs : s.Blank) (h : s.nextHappening = some t) : t.Blank ∧ t.alertSeq = s.alertSeq := by
  have hgrant : ∀ u : State, u.Blank → u.grant.Blank ∧ u.grant.alertSeq = u.alertSeq := fun u hu => by
    have hblocks : u.grant.blocks = u.blocks := by
      obtain hg | ⟨c, g, hc, -, hg⟩ := u.grant_cases <;> rw [hg]
      obtain ⟨rfl, -⟩ := State.cleared_chosen hu.cleared hc
      dsimp only
      unfold State.grantPass
      split <;> rfl
    exact ⟨⟨State.cleared_of_blocks hblocks hu.cleared, by rw [u.grant_keeps.2.1]; exact hu.phase⟩,
      State.alertSeq_of_blocks hblocks⟩
  have hcount : (s.recount (s.choice + 1)).Blank := ⟨State.cleared_of_blocks rfl hs.cleared, hs.phase⟩
  rcases State.nextHappening_cases h with ⟨ht, -⟩ | ⟨-, -, rfl⟩ | ⟨-, ht | rfl⟩
  · rw [State.cleared_takeHead hs.cleared] at ht
    cases ht
  · exact hgrant s hs
  · exact absurd (ht.symm.trans (State.cleared_takeHead hcount.cleared)) (by simp)
  · exact hgrant (s.recount (s.choice + 1)) hcount

theorem follow_blank (hs : s.Blank) (n : Nat) : (follow n s).Blank ∧ (follow n s).alertSeq = s.alertSeq := by
  refine follow_induct (P := fun t => t.Blank ∧ t.alertSeq = s.alertSeq) (fun u t hu ht => ?_) n s ⟨hs, rfl⟩
  obtain ⟨hblank, hseq⟩ := hu.1.nextHappening ht
  obtain ⟨hsettled, hseq'⟩ := settle_blank hblank u
  exact ⟨hsettled, hseq'.trans (hseq.trans hu.2)⟩

/-! ### From the clearing to the end (R183, R184) -/

/-- The response of a finished soft reset is held. -/
def softDone : Engine :=
  .responseReady { code := codeSoftReset, status := .ok, results := [] }

/-- A cleared part in the second phase: with a response owed it rests in that phase, and with none it ends. -/
theorem follow_secondPhase (hs : s.Blank) (heng : s.engine = .executing .waitDelivery) (n : Nat) :
    (s.listsEmpty = false → follow n s.finishCheck.chooseResponse = s.chooseResponse) ∧
    (s.listsEmpty = true → (follow n s.finishCheck.chooseResponse).sequence = (softDone, s.softCount + 1)) := by
  refine ⟨fun hl => ?_, fun hl => ?_⟩
  · have hstay : s.finishCheck = s := if_neg fun h => by simp [hl] at h
    have hclosed := hs.closed.1
    rw [hstay] at hclosed ⊢
    refine follow_rest (State.cleared_nextHappening hclosed.cleared ?_) n
    simp only [State.softRunning, State.chooseResponse_engine, heng]
  · have hend : s.finishCheck.chooseResponse.sequence = (softDone, s.softCount + 1) := by
      rw [State.chooseResponse_sequence, State.finishCheck, if_pos ⟨heng, hl⟩]
      rfl
    refine (follow_sequence n ?_).trans hend
    have hdone : s.finishCheck.chooseResponse.engine = softDone := congrArg Prod.fst hend
    simp only [State.softRunning, hdone, softDone]

end Sys2Proof.Machine
end

section
/-!
SUPPORT. SOFT RESET taken, its clearing and its end as whole happenings (R182 to R184).
-/

namespace Sys2Proof.Machine

variable {s a b : State}

/-! ### The taking (R182) -/

theorem State.softResetFrame_taken (h : s.takesCommand = true) : s.softResetFrame = s.counted.softBegin :=
  if_pos h

/-- A soft reset has begun, with these response order lists. -/
def State.begun (s : State) (ls : Vector OrderList 16) : State :=
  { s with lists := ls, hold := none, engine := .executing .waitTags }

/-- The taking of a soft reset empties the hold slot and starts the first phase, and changes nothing else but the records
of the held request's ID. -/
theorem State.softBegin_cases (s : State) : ∃ ls, s.softBegin = s.begun ls := by
  unfold State.softBegin
  cases hh : s.hold with
  | none => exact ⟨s.lists, by simp [State.begun, ← hh]⟩
  | some h => exact ⟨_, rfl⟩

theorem State.softBegin_records {h : Held} (hh : s.hold = some h) :
    (s.softBegin.list h.request.id).records = answerRecords (fun r => decide (r.key = h.link))
      (fun r => r.failure .offline) (s.list h.request.id).records := by
  have hlist : s.softBegin.list h.request.id = (s.unheld h).list h.request.id := by
    simp only [State.softBegin, hh]
    rfl
  rw [hlist]
  exact congrArg OrderList.records (State.list_setList_same s h.request.id _)

theorem State.softBegin_listsEmpty (s : State) : s.softBegin.listsEmpty = s.listsEmpty := by
  cases hh : s.hold with
  | none =>
    simp only [State.softBegin, hh]
    rfl
  | some h =>
    rw [← s.unheld_listsEmpty h]
    simp only [State.softBegin, hh]
    rfl

theorem State.chooseResponse_keeps (s : State) :
    s.chooseResponse = { s with presented := s.chooseResponse.presented, respPtr := s.chooseResponse.respPtr } := by
  unfold State.chooseResponse
  repeat' split
  all_goals rfl

theorem State.chooseResponse_list (s : State) (id : UpId) : s.chooseResponse.list id = s.list id := by
  rw [State.chooseResponse_keeps]
  rfl

/-- What the end of a happening may change in the first phase: windows, the issue queue's order, and a FLUSH ALL. -/
def State.phased (s : State) (ws : Vector Window 16) (queue : List EntryNo) (running done : Bool) : State :=
  { s with windows := ws, issue := queue, flushAllRunning := running, flushAllDone := done }

/-- The first phase before its clearing check: a draining window may have quiesced, a FLUSH ALL may have completed, and the
issue queue is in order. -/
theorem firstPhase_cases (a b : State) : ∃ ws queue running done,
    orderFlushes a b.drainChecks.flushAllCheck = b.phased ws queue running done ∧
      ∀ w, (b.window w).state ≠ .draining → ws[w] = b.window w := by
  obtain ⟨ws, hws, hkeep⟩ := b.drainChecks_cases
  rw [hws]
  unfold State.flushAllCheck
  split <;> exact ⟨ws, _, _, _, rfl, hkeep⟩

/-- With a tag in use the first phase goes on, and nothing can be taken or granted (R124, R182). -/
theorem finish_firstPhase (heng : b.engine = .executing .waitTags) (hhold : b.hold = none) (htags : b.tagsFree = false)
    (a : State) : ∃ ws queue running done, finish a b = (b.phased ws queue running done).chooseResponse ∧
      ∀ w, (b.window w).state ≠ .draining → ws[w] = b.window w := by
  obtain ⟨ws, queue, running, done, hd, hkeep⟩ := firstPhase_cases a b
  refine ⟨ws, queue, running, done, ?_, hkeep⟩
  have hround : rounds roundLimit a b = b := rounds_of_softInterval (decide_eq_true heng) hhold
  have hclear : (b.phased ws queue running done).clearCheck = b.phased ws queue running done :=
    if_neg fun h => Bool.eq_false_iff.mp htags h.2
  have hfinish : (b.phased ws queue running done).finishCheck = b.phased ws queue running done :=
    if_neg fun h => by cases heng.symm.trans h.1
  have hsettle : settle a b = (b.phased ws queue running done).chooseResponse := by
    rw [settle, hround, hd, hclear, hfinish]
  have hengine : (settle a b).engine = .executing .waitTags := by
    rw [hsettle, State.chooseResponse_engine]
    exact heng
  have hrest : (settle a b).nextHappening = none := by
    refine State.nextHappening_none (State.takeHead_of_softRunning (by simp only [State.softRunning, hengine])).1 ?_
    simp [State.chosen, State.mayChoose, State.softInterval, hengine]
  exact (finish_of_rest hrest).trans hsettle

/-! ### The clearing (R183) -/

theorem State.softClear_sequence (s : State) : s.softClear.sequence = (.executing .waitDelivery, s.softCount) := by
  have h := State.sequence_of_fixed s.answerOffline_fixed
  simp only [State.sequence, Prod.mk.injEq] at h
  simp only [State.sequence, State.softClear, h.2]

/-- With every tag free the clearing falls at the happening of SOFT RESET itself (R182). -/
theorem finish_clearing (heng : b.engine = .executing .waitTags) (hhold : b.hold = none) (htags : b.tagsFree = true)
    (a : State) : ∃ (e : State) (n : Nat), e.Blank ∧ e.sequence = (.executing .waitDelivery, b.softCount) ∧
      e.listsEmpty = b.listsEmpty ∧ finish a b = follow n e.finishCheck.chooseResponse := by
  obtain ⟨ws, queue, running, done, hd, -⟩ := firstPhase_cases a b
  have hround : rounds roundLimit a b = b := rounds_of_softInterval (decide_eq_true heng) hhold
  have hclear : (b.phased ws queue running done).clearCheck = (b.phased ws queue running done).softClear :=
    if_pos ⟨heng, htags⟩
  have hsettle : settle a b = (b.phased ws queue running done).softClear.finishCheck.chooseResponse := by
    rw [settle, hround, hd, hclear]
  refine ⟨(b.phased ws queue running done).softClear, (settle a b).channel.length + 1, State.softClear_blank _,
    State.softClear_sequence (b.phased ws queue running done),
    State.softClear_listsEmpty (b.phased ws queue running done), ?_⟩
  rw [finish_eq, hsettle]

/-- What the answers of the clearing leave alone besides `State.fixed`. -/
def State.spared (s : State) :=
  (s.hold, s.alertSeq)

theorem State.answerOffline_spared (s : State) : s.answerOffline.spared = s.spared := by
  rw [State.answerOffline_eq]
  refine foldl_keeps State.spared _ (fun t y => ?_) s.tableWaiters s
  split
  · split
    · rfl
    · unfold State.reportFailure
      repeat' split
      all_goals rfl
  · rfl

theorem State.softClear_spared (s : State) : s.softClear.spared = s.spared := by
  have h := s.answerOffline_spared
  unfold State.softClear
  generalize s.answerOffline = u at h
  exact h

/-- The clearing by itself, with the end of its happening. -/
theorem finish_softClear (a s : State) : ∃ (r : State) (n : Nat),
    (r = s.softClear ∨ ∃ h, s.softClear.hold = some h ∧ r = s.softClear.unheld h) ∧ r.Blank ∧
      r.sequence = (.executing .waitDelivery, s.softCount) ∧ r.listsEmpty = s.listsEmpty ∧
      r.alertSeq = s.alertSeq ∧ finish a s.softClear = follow n r.finishCheck.chooseResponse := by
  obtain ⟨r, hr, hblank, hsettle⟩ := settle_of_blank s.softClear_blank a
  have hseq : s.softClear.alertSeq = s.alertSeq := congrArg Prod.snd s.softClear_spared
  refine ⟨r, _, hr, hblank, ?_, ?_, ?_, by rw [finish_eq, hsettle]⟩
  · rcases hr with rfl | ⟨h, -, rfl⟩ <;> exact s.softClear_sequence
  · rcases hr with rfl | ⟨h, -, rfl⟩
    · exact s.softClear_listsEmpty
    · exact (s.softClear.unheld_listsEmpty h).trans s.softClear_listsEmpty
  · rcases hr with rfl | ⟨h, -, rfl⟩ <;> exact hseq

/-- The response presented stays (R52). -/
theorem State.chooseResponse_busy (h : s.presented ≠ none) : s.chooseResponse = s := by
  obtain ⟨id, h⟩ := Option.ne_none_iff_exists'.mp h
  simp only [State.chooseResponse, h]

/-- With a response owed and no request held the clearing leaves the ports and the channel, and rests (R183). -/
theorem finish_softClear_owing (hl : s.listsEmpty = false) (hhold : s.hold = none) (a : State) :
    finish a s.softClear = s.softClear.chooseResponse := by
  obtain ⟨r, n, hr, hblank, hseq, hempty, -, hfinish⟩ := finish_softClear a s
  have hsame : r = s.softClear := by
    rcases hr with rfl | ⟨h, hh, -⟩
    · rfl
    · have hnone : s.softClear.hold = s.hold := congrArg Prod.fst s.softClear_spared
      rw [hnone, hhold] at hh
      cases hh
  rw [hfinish, (follow_secondPhase hblank (congrArg Prod.fst hseq) n).1 (hempty.trans hl), hsame]

theorem exec_softResetClearing (s : State) : exec .softResetClearing s = .next (finish s s.clearCheck) := rfl

theorem exec_softResetEnd (s : State) : exec .softResetEnd s = .next (finish s s.finishCheck) := rfl

/-- The clearing and the end of its happening leave the clock, the parameters, the frame and the counts of commands. -/
theorem finish_softClear_steady (a s : State) : (finish a s.softClear).steady = s.steady :=
  (finish_steady a s.softClear).trans (State.steady_of_outer s.softClear_outer)

theorem State.softClear_respPtr (s : State) : s.softClear.respPtr = s.respPtr := by
  have h := s.answerOffline_fixed
  unfold State.softClear
  generalize s.answerOffline = u at h
  simp only [State.fixed, Prod.mk.injEq] at h
  tauto

theorem State.softClear_presented (s : State) : s.softClear.presented = s.presented := by
  have h := State.presented_of_fixed s.answerOffline_fixed
  unfold State.softClear
  generalize s.answerOffline = u at h
  exact h

/-- With a response owed the clearing leaves the ports and the request channel, and answers what is owed (R93, R183). -/
theorem State.softClear_chooseResponse_keeps (s : State) :
    let t := s.softClear.chooseResponse
    t.engine = .executing .waitDelivery ∧ t.downstream = s.downstream ∧ t.channel = s.channel ∧
      (s.presented ≠ none → t.presented = s.presented ∧ t.respPtr = s.respPtr) ∧
      ∀ id, t.list id = s.softClear.list id := by
  have hphase : s.softClear.engine = .executing .waitDelivery := congrArg Prod.fst s.softClear_sequence
  refine ⟨(State.chooseResponse_engine _).trans hphase,
    State.downstream_of_outer ((State.chooseResponse_outer _).trans s.softClear_outer),
    (State.chooseResponse_channel _).trans s.softClear_channel, fun hp => ?_, fun id => ?_⟩
  · rw [State.chooseResponse_busy (by rw [s.softClear_presented]; exact hp)]
    exact ⟨s.softClear_presented, s.softClear_respPtr⟩
  · exact State.chooseResponse_list _ id

end Sys2Proof.Machine

open Sys2Proof Sys2Proof.Machine

/-- Settles O7. While a tag is out the first phase goes on (`finish_firstPhase`); the clearing leaves a blank part, which
stays blank through what follows, rests while a response is owed and ends otherwise (`follow_secondPhase`). -/
theorem softResetTaken : Obligations.SoftResetTaken := by
  refine ⟨fun s hcmd htags => ?_, fun s hcmd htags => ?_, fun s heng htags => ?_, fun s heng hl => ?_⟩
  · refine ⟨finish s s.softResetFrame, rfl, ?_⟩
    rw [State.softResetFrame_taken hcmd]
    have hrecords : ∀ h, s.hold = some h → _ := fun h hh => State.softBegin_records (s := s.counted) hh
    obtain ⟨ls, hbegin⟩ := s.counted.softBegin_cases
    rw [hbegin] at hrecords ⊢
    obtain ⟨ws, queue, running, done, hfinish, hwin⟩ :=
      finish_firstPhase (b := s.counted.begun ls) rfl rfl htags s
    rw [hfinish, State.chooseResponse_keeps]
    exact ⟨rfl, rfl, rfl, rfl, rfl, rfl, hwin, rfl, rfl, hrecords⟩
  · refine ⟨finish s s.softResetFrame, rfl, ?_⟩
    rw [State.softResetFrame_taken hcmd]
    have hempty : s.counted.softBegin.listsEmpty = s.listsEmpty := s.counted.softBegin_listsEmpty
    obtain ⟨ls, hbegin⟩ := s.counted.softBegin_cases
    rw [hbegin] at hempty ⊢
    obtain ⟨e, n, hblank, hseq, hlists, hfinish⟩ := finish_clearing (b := s.counted.begun ls) rfl rfl htags s
    have hsteady := finish_steady s (s.counted.begun ls)
    simp only [State.steady, Prod.mk.injEq] at hsteady
    obtain ⟨-, -, -, -, -, -, -, -, -, htaken, hframe⟩ := hsteady
    obtain ⟨hstay, hend⟩ := follow_secondPhase hblank (congrArg Prod.fst hseq) n
    rw [← hfinish, hlists.trans hempty] at hstay hend
    have hcount : e.softCount = s.softCount := congrArg Prod.snd hseq
    refine ⟨?_, htaken, hframe, fun hl => ?_, fun hl => ?_⟩
    · rw [hfinish]
      exact (follow_blank hblank.closed.1 n).1.cleared
    · have hrest := (hstay hl ▸ e.chooseResponse_sequence).trans hseq
      exact State.sequence_eq.mp hrest
    · rw [← hcount]
      exact (State.sequence_eq.mp (hend hl)).symm
  · have hclear : s.clearCheck = s.softClear := if_pos ⟨heng, htags⟩
    obtain ⟨r, n, -, hblank, hseq, hempty, halert, hfinish⟩ := finish_softClear s s
    obtain ⟨-, hend⟩ := follow_secondPhase hblank (congrArg Prod.fst hseq) n
    have hcount : r.softCount = s.softCount := congrArg Prod.snd hseq
    rw [hempty, hcount, ← hfinish] at hend
    have hsteady := finish_softClear_steady s s
    simp only [State.steady, Prod.mk.injEq] at hsteady
    obtain ⟨-, -, htick, hclock, hlow, hage, hage', hpre, hen, htaken, hframe⟩ := hsteady
    obtain ⟨hcleared, hseq'⟩ := follow_blank hblank.closed.1 n
    rw [← hfinish] at hcleared hseq'
    refine ⟨finish s s.softClear, by rw [exec_softResetClearing, hclear], hcleared.cleared,
      ⟨htick, hclock, hlow, hage, hage', hpre, (hseq'.trans hblank.closed.2).trans halert, hen, htaken, hframe⟩,
      fun hl hhold => ?_, fun hl => (State.sequence_eq.mp (hend hl)).symm⟩
    rw [finish_softClear_owing hl hhold]
    obtain ⟨hphase, hdown, hchannel, hpres, hlists⟩ := s.softClear_chooseResponse_keeps
    simp only [State.downstream, Prod.mk.injEq] at hdown
    obtain ⟨htag, harb, hsecond, -⟩ := hdown
    exact ⟨hphase, htag, harb, hsecond, hchannel, hpres, fun id => by rw [hlists]; exact s.softClear_records id⟩
  · have hcheck : s.finishCheck = s.softFinish := if_pos ⟨heng, hl⟩
    have hseq : (finish s s.softFinish).sequence = s.softFinish.sequence := finish_sequence s rfl
    exact ⟨finish s s.softFinish, by rw [exec_softResetEnd, hcheck], (State.sequence_eq.mp hseq).symm⟩

end

section
/-!
SUPPORT. Where the entries of the update table stand (R62, R67 to R72). `State.Seated` says of one entry what
`State.tableConsistent` says of it, `State.TableWide` what it says of the table as a whole; an operation that moves one
entry is then judged by that entry's new place alone.
-/

namespace Sys2Proof.Machine

variable {s t : State} {e : EntryNo} {x y : Entry} {o : Option Entry}

/-! ### Seats -/

/-- The collection an entry's state calls for: none, the dirty list, the clean list, or the memory port, where it waits in
the issue queue or stands behind the tag of a request of this kind (R69, R71, R72). -/
inductive Seat where
  | off
  | dirty
  | clean
  | port (k : ReqKind)

def Body.seat : Body → Seat
  | .accum _ _ | .held _ true => .dirty
  | .held _ false => .clean
  | .fetch _ _ _ => .port .read
  | .write _ _ => .port .write
  | .strandedFetch _ _ _ | .strandedWrite _ => .off

def seatOf : Option Entry → Seat
  | some x => x.body.seat
  | none => .off

def Seat.inDirty : Seat → Bool
  | .dirty => true
  | .off | .clean | .port _ => false

def Seat.inClean : Seat → Bool
  | .clean => true
  | .off | .dirty | .port _ => false

def Seat.atPort : Seat → Bool
  | .port _ => true
  | .off | .dirty | .clean => false

/-- The states in which waiters may stand (R68). -/
def Body.mayWait : Body → Bool
  | .fetch _ _ _ | .strandedFetch _ _ _ => true
  | .accum _ _ | .held _ _ | .write _ _ | .strandedWrite _ => false

theorem Body.mayWait_iff {b : Body} : b.mayWait = true ↔ ∃ d m q, b = .fetch d m q ∨ b = .strandedFetch d m q := by
  cases b <;> simp [Body.mayWait]

theorem Seat.atPort_iff {p : Seat} : p.atPort = true ↔ ∃ k, p = .port k := by
  cases p <;> simp [Seat.atPort]

theorem inDirty_seatOf_iff : (seatOf o).inDirty = true ↔
    ∃ x, o = some x ∧ ((∃ d m, x.body = .accum d m) ∨ ∃ v, x.body = .held v true) := by
  cases o with
  | none => simp [seatOf, Seat.inDirty]
  | some x =>
    simp only [seatOf, Option.some.injEq, exists_eq_left']
    rcases x.body with _ | _ | ⟨_, _ | _⟩ | _ | _ | _ <;> simp [Body.seat, Seat.inDirty]

theorem inClean_seatOf_iff : (seatOf o).inClean = true ↔ ∃ x v, o = some x ∧ x.body = .held v false := by
  cases o with
  | none => simp [seatOf, Seat.inClean]
  | some x =>
    simp only [seatOf, Option.some.injEq, exists_and_left, exists_eq_left']
    rcases x.body with _ | _ | ⟨_, _ | _⟩ | _ | _ | _ <;> simp [Body.seat, Seat.inClean]

theorem seatOf_port_iff {k : ReqKind} : seatOf o = .port k ↔ ∃ x, o = some x ∧
    ((k = .read ∧ ∃ d m q, x.body = .fetch d m q) ∨ (k = .write ∧ ∃ v r, x.body = .write v r)) := by
  cases o with
  | none => simp [seatOf]
  | some x =>
    simp only [seatOf, Option.some.injEq, exists_eq_left']
    rcases x.body with _ | _ | ⟨_, _ | _⟩ | _ | _ | _ <;> cases k <;> simp [Body.seat]

theorem atPort_seatOf_iff : (seatOf o).atPort = true ↔
    ∃ x, o = some x ∧ ((∃ d m q, x.body = .fetch d m q) ∨ ∃ v r, x.body = .write v r) := by
  rw [Seat.atPort_iff]
  constructor
  · rintro ⟨k, hk⟩
    obtain ⟨x, hx, ⟨-, hb⟩ | ⟨-, hb⟩⟩ := seatOf_port_iff.mp hk
    · exact ⟨x, hx, .inl hb⟩
    · exact ⟨x, hx, .inr hb⟩
  · rintro ⟨x, hx, hb | hb⟩
    · exact ⟨.read, seatOf_port_iff.mpr ⟨x, hx, .inl ⟨rfl, hb⟩⟩⟩
    · exact ⟨.write, seatOf_port_iff.mpr ⟨x, hx, .inr ⟨rfl, hb⟩⟩⟩

/-! ### One entry, and the table as a whole -/

/-- Tag `g` is entry `e`'s, for a transaction of kind `k` (R114). -/
def State.holds (s : State) (g : Tag) (e : EntryNo) (k : ReqKind) : Prop :=
  ∃ r, s.tagAt g = some r ∧ r.owner = .table e ∧ r.kind = k

/-- Entry `e` holds no tag. -/
def State.untagged (s : State) (e : EntryNo) : Prop :=
  ∀ g k, ¬ s.holds g e k

/-- Entry `e` stands in the collections its state calls for, its tag is its transaction's, and it has waiters only where
its state allows them. -/
structure State.Seated (s : State) (e : EntryNo) : Prop where
  dirty : e ∈ s.dirty ↔ (seatOf (s.entry e)).inDirty = true
  clean : e ∈ s.clean ↔ (seatOf (s.entry e)).inClean = true
  issue : e ∈ s.issue ↔ (seatOf (s.entry e)).atPort = true ∧ s.untagged e
  tag : ∀ g k, s.holds g e k → seatOf (s.entry e) = .port k
  single : ∀ g h k l, s.holds g e k → s.holds h e l → g = h
  waits : ∀ x, s.entry e = some x → x.waiters ≠ [] → x.body.mayWait = true

/-- Waiter records in use (R67). -/
def State.waiting (s : State) : Nat :=
  (s.entries.toList.map waitersOf).sum

/-- What `State.tableConsistent` says of no single entry. -/
structure State.TableWide (s : State) : Prop where
  dirty : s.dirty.Nodup
  clean : s.clean.Nodup
  issue : s.issue.Nodup
  counters : s.oneEntryEach
  pool : s.waiting ≤ 64

theorem State.untagged_iff : s.untagged e ↔ ∀ g r, s.tagAt g = some r → r.owner ≠ .table e := by
  constructor
  · exact fun h g r hr ho => h g r.kind ⟨r, hr, ho, rfl⟩
  · rintro h g k ⟨r, hr, ho, -⟩
    exact h g r hr ho

theorem State.tableConsistent_iff : s.tableConsistent ↔ s.TableWide ∧ ∀ e, s.Seated e := by
  constructor
  · rintro ⟨hone, hwait, hpool, ⟨hdn, hd⟩, ⟨hcn, hc⟩, ⟨hin, hi⟩, htag, hsingle⟩
    refine ⟨⟨hdn, hcn, hin, hone, hpool⟩, fun e => ⟨?_, ?_, ?_, ?_, ?_, ?_⟩⟩
    · rw [hd, inDirty_seatOf_iff]
    · rw [hc, inClean_seatOf_iff]
    · rw [hi, atPort_seatOf_iff, State.untagged_iff]
    · rintro g k ⟨r, hr, ho, rfl⟩
      exact seatOf_port_iff.mpr (htag g r e hr ho)
    · rintro g h k l ⟨q, hq, hqo, -⟩ ⟨r, hr, hro, -⟩
      exact hsingle g h q r e hq hr hqo hro
    · exact fun x hx hw => Body.mayWait_iff.mpr (hwait e x hx hw)
  · rintro ⟨⟨hdn, hcn, hin, hone, hpool⟩, hseat⟩
    refine ⟨hone, fun e x hx hw => Body.mayWait_iff.mp ((hseat e).waits x hx hw), hpool, ⟨hdn, fun e => ?_⟩,
      ⟨hcn, fun e => ?_⟩, ⟨hin, fun e => ?_⟩, fun g r e hr ho => ?_, fun g h q r e hq hr hqo hro => ?_⟩
    · rw [(hseat e).dirty, inDirty_seatOf_iff]
    · rw [(hseat e).clean, inClean_seatOf_iff]
    · rw [(hseat e).issue, atPort_seatOf_iff, State.untagged_iff]
    · exact seatOf_port_iff.mp ((hseat e).tag g r.kind ⟨r, hr, ho, rfl⟩)
    · exact (hseat e).single g h _ _ ⟨q, hq, hqo, rfl⟩ ⟨r, hr, hro, rfl⟩

/-- The part of the state that `State.tableConsistent` speaks of. -/
def State.tableSide (s : State) :=
  (s.entries, s.dirty, s.clean, s.issue, s.holds)

theorem State.entry_of_tableSide (h : t.tableSide = s.tableSide) (e : EntryNo) : t.entry e = s.entry e :=
  State.entry_of_entries (congrArg Prod.fst h) e

theorem State.TableWide.congr (h : t.tableSide = s.tableSide) (hs : s.TableWide) : t.TableWide := by
  have hent := State.entry_of_tableSide h
  simp only [State.tableSide, Prod.mk.injEq] at h
  obtain ⟨he, hd, hc, hi, -⟩ := h
  obtain ⟨hdn, hcn, hin, hone, hpool⟩ := hs
  refine ⟨hd ▸ hdn, hc ▸ hcn, hi ▸ hin, ?_, ?_⟩
  · simpa only [State.oneEntryEach, hent] using hone
  · simpa only [State.waiting, he] using hpool

theorem State.Seated.congr (h : t.tableSide = s.tableSide) (hs : s.Seated e) : t.Seated e := by
  have hent := State.entry_of_tableSide h
  simp only [State.tableSide, Prod.mk.injEq] at h
  obtain ⟨-, hd, hc, hi, hh⟩ := h
  obtain ⟨hde, hce, hie, hte, hse, hwe⟩ := hs
  refine ⟨?_, ?_, ?_, ?_, ?_, ?_⟩ <;> unfold State.untagged at * <;> simpa only [hd, hc, hi, hent, hh]

theorem State.tableConsistent_congr (h : t.tableSide = s.tableSide) (hs : s.tableConsistent) : t.tableConsistent := by
  obtain ⟨hwide, hseated⟩ := State.tableConsistent_iff.mp hs
  exact State.tableConsistent_iff.mpr ⟨hwide.congr h, fun e => (hseated e).congr h⟩

/-! ### One entry changes -/

/-- Rewriting one entry changes the number of waiters by that entry's. -/
theorem State.waiting_of_one (hother : ∀ f, f ≠ e → t.entry f = s.entry f) :
    t.waiting + waitersOf (s.entry e) = s.waiting + waitersOf (t.entry e) := by
  have hsum : ∀ u : State, u.waiting = waitersOf (u.entry e) + ∑ f ∈ Finset.univ.erase e, waitersOf (u.entry f) := by
    intro u
    rw [Finset.add_sum_erase _ (fun f => waitersOf (u.entry f)) (Finset.mem_univ e), Fin.sum_univ_def, State.waiting,
      State.entries_toList, List.map_map]
    rfl
  have hrest : ∑ f ∈ Finset.univ.erase e, waitersOf (t.entry f) = ∑ f ∈ Finset.univ.erase e, waitersOf (s.entry f) :=
    Finset.sum_congr rfl fun f hf => by rw [hother f (Finset.ne_of_mem_erase hf)]
  rw [hsum t, hsum s, hrest]
  omega

/-- A list changes at entry `e` alone, which stands in it once afterwards where `b` is set, and else not. -/
structure Moves (e : EntryNo) (l l' : List EntryNo) (b : Bool) : Prop where
  nodup : l'.Nodup
  here : e ∈ l' ↔ b = true
  others : ∀ f, f ≠ e → (f ∈ l' ↔ f ∈ l)

section Moves

variable {l : List EntryNo} {b : Bool}

theorem Moves.stays (hn : l.Nodup) (h : e ∈ l ↔ b = true) : Moves e l l b :=
  ⟨hn, h, fun _ _ => Iff.rfl⟩

theorem Moves.kept {l' : List EntryNo} (hn : l.Nodup) (h : l' = l) : Moves e l l' (decide (e ∈ l)) :=
  ⟨h ▸ hn, by simp [h], fun _ _ => by rw [h]⟩

theorem Moves.leaves (hn : l.Nodup) : Moves e l (l.filter (fun y => decide (y ≠ e))) false :=
  ⟨hn.filter _, by simp, fun f hf => by simp [hf]⟩

theorem Moves.joins (hn : l.Nodup) (h : e ∉ l) : Moves e l (l ++ [e]) true := by
  refine ⟨?_, by simp, fun f hf => by simp [hf]⟩
  rw [List.nodup_append]
  exact ⟨hn, by simp, by rintro a ha b hb rfl; exact h (List.mem_singleton.mp hb ▸ ha)⟩

theorem Moves.renews (hn : l.Nodup) : Moves e l (l.filter (fun y => decide (y ≠ e)) ++ [e]) true := by
  obtain ⟨hnd, hmem, hother⟩ := Moves.joins (e := e) (hn.filter (fun y => decide (y ≠ e))) (by simp)
  exact ⟨hnd, hmem, fun f hf => (hother f hf).trans (by simp [hf])⟩

theorem Moves.head (hn : (e :: l).Nodup) : Moves e (e :: l) l false :=
  ⟨hn.of_cons, by simpa using hn.notMem, fun f hf => by simp [hf]⟩

theorem State.insertByAge_perm (s : State) (e : EntryNo) (l : List EntryNo) : (s.insertByAge e l).Perm (e :: l) := by
  obtain ⟨front, back, rfl, hafter, -⟩ := s.insertByAge_joins e l
  rw [hafter]
  exact List.perm_middle

theorem Moves.ages (hn : l.Nodup) (h : e ∉ l) (s : State) : Moves e l (s.insertByAge e l) true := by
  have hp := s.insertByAge_perm e l
  exact ⟨hp.nodup_iff.mpr (List.nodup_cons.mpr ⟨h, hn⟩), by simp [hp.mem_iff], fun f hf => by simp [hp.mem_iff, hf]⟩

end Moves

/-- All of the table but entry `e` is in order. -/
structure State.TableBut (s : State) (e : EntryNo) : Prop where
  wide : s.TableWide
  seated : ∀ f, f ≠ e → s.Seated f

/-- `o` may stand in the place of entry `e`: its waiters are allowed and in the pool, and no other entry names its
counter. -/
structure State.Admits (s : State) (e : EntryNo) (o : Option Entry) : Prop where
  waits : ∀ y, o = some y → y.waiters ≠ [] → y.body.mayWait = true
  counter : ∀ w i, namesCounter w i o → ∀ f, f ≠ e → ¬ namesCounter w i (s.entry f)
  pool : s.waiting + waitersOf o ≤ 64 + waitersOf (s.entry e)

/-- Entry `e` alone changes, and is in order afterwards. -/
theorem State.TableBut.close (hs : s.TableBut e) (hother : ∀ f, f ≠ e → t.entry f = s.entry f)
    (hadmit : s.Admits e (t.entry e)) {bd bc bi : Bool} (hd : Moves e s.dirty t.dirty bd) (hc : Moves e s.clean t.clean bc)
    (hi : Moves e s.issue t.issue bi) (htags : ∀ f, f ≠ e → ∀ g k, t.holds g f k ↔ s.holds g f k) (hseat : t.Seated e) :
    t.tableConsistent := by
  obtain ⟨hwide, hseated⟩ := hs
  refine State.tableConsistent_iff.mpr ⟨⟨hd.nodup, hc.nodup, hi.nodup, fun f g x y hx hy hw hi' => ?_, ?_⟩, fun f => ?_⟩
  · have hf : namesCounter y.window y.index (t.entry f) := ⟨x, hx, hw, hi'⟩
    have hg : namesCounter y.window y.index (t.entry g) := ⟨y, hy, rfl, rfl⟩
    by_cases hfe : f = e <;> by_cases hge : g = e
    · rw [hfe, hge]
    · rw [hfe] at hf
      rw [hother g hge] at hg
      exact absurd hg (hadmit.counter _ _ hf g hge)
    · rw [hge] at hg
      rw [hother f hfe] at hf
      exact absurd hf (hadmit.counter _ _ hg f hfe)
    · rw [hother f hfe] at hf
      rw [hother g hge] at hg
      exact State.eq_of_names hwide.counters hf hg
  · have hsum := State.waiting_of_one hother
    have hpool := hadmit.pool
    omega
  · by_cases hf : f = e
    · rw [hf]
      exact hseat
    · obtain ⟨hdf, hcf, hif, htf, hsf, hwf⟩ := hseated f hf
      have hfree : t.untagged f ↔ s.untagged f := by simp only [State.untagged, htags f hf]
      refine ⟨?_, ?_, ?_, ?_, ?_, ?_⟩
      · rw [hd.others f hf, hother f hf, hdf]
      · rw [hc.others f hf, hother f hf, hcf]
      · rw [hi.others f hf, hother f hf, hif, hfree]
      · intro g k hg
        rw [hother f hf]
        exact htf g k ((htags f hf g k).mp hg)
      · exact fun g h k l hg hh => hsf g h k l ((htags f hf g k).mp hg) ((htags f hf h l).mp hh)
      · intro x hx
        exact hwf x (by rw [← hother f hf]; exact hx)

theorem State.tableBut (hs : s.tableConsistent) (e : EntryNo) : s.TableBut e :=
  ⟨(State.tableConsistent_iff.mp hs).1, fun f _ => (State.tableConsistent_iff.mp hs).2 f⟩

/-- An entry changes within its collection: its counter, its place and its tag stay. -/
theorem State.tableConsistent_rewrite (hs : s.tableConsistent) (hx : s.entry e = some x)
    (hother : ∀ f, f ≠ e → t.entry f = s.entry f) (hy : t.entry e = some y) (hseat : y.body.seat = x.body.seat)
    (hadmit : s.Admits e (some y)) (hd : t.dirty = s.dirty) (hc : Moves e s.clean t.clean x.body.seat.inClean)
    (hi : t.issue = s.issue) (hh : t.holds = s.holds) : t.tableConsistent := by
  obtain ⟨hwide, hseated⟩ := State.tableConsistent_iff.mp hs
  obtain ⟨hde, hce, hie, hte, hse, -⟩ := hseated e
  have hfree : t.untagged e ↔ s.untagged e := by simp only [State.untagged, hh]
  have hsame : seatOf (t.entry e) = seatOf (s.entry e) := by rw [hy, hx]; exact hseat
  refine (State.tableBut hs e).close hother (hy.symm ▸ hadmit) (Moves.kept hwide.dirty hd) hc
    (Moves.kept hwide.issue hi) (fun f _ g k => by rw [hh]) ?_
  exact {
    dirty := by rw [hd, hsame, hde]
    clean := by rw [hc.here, hy]; exact hseat ▸ Iff.rfl
    issue := by rw [hi, hsame, hie, hfree]
    tag := fun g k hg => hsame ▸ hte g k (hh ▸ hg)
    single := fun g h k l hg hl => hse g h k l (hh ▸ hg) (hh ▸ hl)
    waits := fun z hz => hadmit.waits z (by rw [← hy]; exact hz) }

/-! ### What may stand in an entry's place -/

theorem State.admits_none (hs : s.TableWide) (e : EntryNo) : s.Admits e none where
  waits := fun _ h => by cases h
  counter := fun w i h => absurd h (not_namesCounter_none w i)
  pool := by
    have := hs.pool
    simp only [waitersOf]
    omega

/-- An entry of the same counter, with waiters that the pool has room for. -/
theorem State.admits_same (hs : s.TableWide) (hx : s.entry e = some x) (hw : y.window = x.window) (hi : y.index = x.index)
    (hwaits : y.waiters ≠ [] → y.body.mayWait = true)
    (hpool : s.waiting + y.waiters.length ≤ 64 + x.waiters.length) : s.Admits e (some y) where
  waits := by
    rintro _ ⟨⟩
    exact hwaits
  counter := by
    rintro w i hn f hf hnf
    obtain ⟨rfl, rfl⟩ := namesCounter_some.mp hn
    exact hf (State.eq_of_names hs.counters hnf ⟨x, hx, hw.symm, hi.symm⟩)
  pool := by
    rw [hx]
    exact hpool

/-- An entry of the same counter without more waiters. -/
theorem State.admits_fewer (hs : s.TableWide) (hx : s.entry e = some x) (hw : y.window = x.window) (hi : y.index = x.index)
    (hwaits : y.waiters ≠ [] → y.body.mayWait = true) (hfewer : y.waiters.length ≤ x.waiters.length) :
    s.Admits e (some y) :=
  State.admits_same hs hx hw hi hwaits (by have := hs.pool; omega)

/-! ### An entry that stands apart from the memory port -/

/-- All of the table but entry `e` is in order, and `e` stands in the collections of seat `p`, outside the issue queue and
without a tag; whether its own state calls for that seat is left open. -/
structure State.Apart (s : State) (e : EntryNo) (p : Seat) : Prop where
  but : s.TableBut e
  dirty : e ∈ s.dirty ↔ p.inDirty = true
  clean : e ∈ s.clean ↔ p.inClean = true
  issue : e ∉ s.issue
  free : s.untagged e
  waits : ∀ x, s.entry e = some x → x.waiters ≠ [] → x.body.mayWait = true

variable {p q : Seat}

/-- In a consistent table an entry whose state does not call for the memory port stands apart from it. -/
theorem State.apart (hs : s.tableConsistent) (ho : s.entry e = o) (hp : seatOf o = p) (hport : p.atPort = false) :
    s.Apart e p := by
  obtain ⟨hde, hce, hie, hte, -, hwe⟩ := (State.tableConsistent_iff.mp hs).2 e
  rw [ho, hp] at hde hce hie
  refine ⟨State.tableBut hs e, hde, hce, ?_, fun g k hg => ?_, hwe⟩
  · rw [hie, hport]
    simp
  · have hk := hte g k hg
    rw [ho, hp] at hk
    rw [hk] at hport
    cases hport

/-- The entry is rewritten to `o`, and takes its place in the collection that `o` calls for. -/
theorem State.Apart.place (hs : s.Apart e p) (hh : t.holds = s.holds) (hother : ∀ f, f ≠ e → t.entry f = s.entry f)
    (ho : t.entry e = o) (hq : seatOf o = q) (hadmit : s.Admits e o) (hd : Moves e s.dirty t.dirty q.inDirty)
    (hc : Moves e s.clean t.clean q.inClean) (hi : Moves e s.issue t.issue q.atPort) : t.tableConsistent := by
  subst ho hq
  have hfree : t.untagged e := fun g k hg => hs.free g k (hh ▸ hg)
  refine hs.but.close hother hadmit hd hc hi (fun f _ g k => by rw [hh]) ?_
  exact {
    dirty := hd.here
    clean := hc.here
    issue := hi.here.trans (by simp [hfree])
    tag := fun g k hg => absurd hg (hfree g k)
    single := fun g h k l hg => absurd hg (hfree g k)
    waits := hadmit.waits }

theorem State.Apart.congr (h : t.tableSide = s.tableSide) (hs : s.Apart e p) : t.Apart e p := by
  have hbut : t.TableBut e := ⟨hs.but.wide.congr h, fun f hf => (hs.but.seated f hf).congr h⟩
  have hent := State.entry_of_tableSide h e
  simp only [State.tableSide, Prod.mk.injEq] at h
  obtain ⟨-, hd, hc, hi, hh⟩ := h
  exact ⟨hbut, hd ▸ hs.dirty, hc ▸ hs.clean, hi ▸ hs.issue, fun g k hg => hs.free g k (hh ▸ hg), hent ▸ hs.waits⟩

section Seats

variable {k : ReqKind}

/-- From the dirty list to the issue queue: a flush (R96), or a resolving operation on gathered work (R77). -/
theorem State.Apart.dirty_to_port (hs : s.Apart e .dirty) (hy : y.body.seat = .port k) (hadmit : s.Admits e (some y)) :
    State.tableConsistent { s.setEntry e (some y) with
      dirty := s.dirty.filter (fun f => decide (f ≠ e)), issue := s.issue ++ [e] } :=
  hs.place rfl (fun _ hf => State.entry_setEntry_ne s hf.symm _) (State.entry_setEntry_same s e _) hy hadmit
    (Moves.leaves hs.but.wide.dirty) (Moves.stays hs.but.wide.clean hs.clean) (Moves.joins hs.but.wide.issue hs.issue)

/-- Into the issue queue from no collection: an allocation (R77), a retry (R156), or the flush of a fetched entry (R87). -/
theorem State.Apart.off_to_port (hs : s.Apart e .off) (hy : y.body.seat = .port k) (hadmit : s.Admits e (some y)) :
    State.tableConsistent { s.setEntry e (some y) with issue := s.issue ++ [e] } :=
  hs.place rfl (fun _ hf => State.entry_setEntry_ne s hf.symm _) (State.entry_setEntry_same s e _) hy hadmit
    (Moves.stays hs.but.wide.dirty hs.dirty) (Moves.stays hs.but.wide.clean hs.clean)
    (Moves.joins hs.but.wide.issue hs.issue)

/-- Onto the dirty list's tail: an allocation for an ADD (R74). -/
theorem State.Apart.off_to_dirty (hs : s.Apart e .off) (hy : y.body.seat = .dirty) (hadmit : s.Admits e (some y)) :
    State.tableConsistent { s.setEntry e (some y) with dirty := s.dirty ++ [e] } :=
  hs.place rfl (fun _ hf => State.entry_setEntry_ne s hf.symm _) (State.entry_setEntry_same s e _) hy hadmit
    (Moves.joins hs.but.wide.dirty (by simp [hs.dirty, Seat.inDirty])) (Moves.stays hs.but.wide.clean hs.clean)
    (Moves.stays hs.but.wide.issue (by simp [hs.issue, Seat.atPort]))

/-- Into the dirty list by age (R69, R87, R89). -/
theorem State.Apart.off_to_age (hs : s.Apart e .off) (hy : y.body.seat = .dirty) (hadmit : s.Admits e (some y)) :
    State.tableConsistent { s.setEntry e (some y) with dirty := (s.setEntry e (some y)).insertByAge e s.dirty } :=
  hs.place rfl (fun _ hf => State.entry_setEntry_ne s hf.symm _) (State.entry_setEntry_same s e _) hy hadmit
    (Moves.ages hs.but.wide.dirty (by simp [hs.dirty, Seat.inDirty]) _) (Moves.stays hs.but.wide.clean hs.clean)
    (Moves.stays hs.but.wide.issue (by simp [hs.issue, Seat.atPort]))

/-- Onto the clean list's tail (R71, R87, R89). -/
theorem State.Apart.off_to_clean (hs : s.Apart e .off) (hy : y.body.seat = .clean) (hadmit : s.Admits e (some y)) :
    ((s.setEntry e (some y)).joinClean e).tableConsistent :=
  hs.place rfl (fun _ hf => State.entry_setEntry_ne s hf.symm _) (State.entry_setEntry_same s e _) hy hadmit
    (Moves.stays hs.but.wide.dirty hs.dirty) (Moves.renews hs.but.wide.clean)
    (Moves.stays hs.but.wide.issue (by simp [hs.issue, Seat.atPort]))

/-- From the clean list to the dirty list's tail: an update (R70, R80). -/
theorem State.Apart.clean_to_dirty (hs : s.Apart e .clean) (hy : y.body.seat = .dirty) (hadmit : s.Admits e (some y)) :
    State.tableConsistent { s.setEntry e (some y) with
      clean := s.clean.filter (fun f => decide (f ≠ e)), dirty := s.dirty ++ [e] } :=
  hs.place rfl (fun _ hf => State.entry_setEntry_ne s hf.symm _) (State.entry_setEntry_same s e _) hy hadmit
    (Moves.joins hs.but.wide.dirty (by simp [hs.dirty, Seat.inDirty])) (Moves.leaves hs.but.wide.clean)
    (Moves.stays hs.but.wide.issue (by simp [hs.issue, Seat.atPort]))

/-- To no collection: a failed fetch or write-back (R149, R150). -/
theorem State.Apart.off_to_off (hs : s.Apart e .off) (hy : y.body.seat = .off) (hadmit : s.Admits e (some y)) :
    (s.setEntry e (some y)).tableConsistent :=
  hs.place rfl (fun _ hf => State.entry_setEntry_ne s hf.symm _) (State.entry_setEntry_same s e _) hy hadmit
    (Moves.stays hs.but.wide.dirty hs.dirty) (Moves.stays hs.but.wide.clean hs.clean)
    (Moves.stays hs.but.wide.issue (by simp [hs.issue, Seat.atPort]))

/-- FREE, out of every collection (R65). -/
theorem State.Apart.freeEntry (hs : s.Apart e p) : (s.freeEntry e).tableConsistent :=
  hs.place (q := .off) rfl (fun _ hf => State.entry_setEntry_ne s hf.symm _) (State.entry_setEntry_same s e _) rfl
    (State.admits_none hs.but.wide e) (Moves.leaves hs.but.wide.dirty) (Moves.leaves hs.but.wide.clean)
    (Moves.leaves hs.but.wide.issue)

/-- FREE, from the head of the clean list: the reclaim of an allocation (R65). -/
theorem State.Apart.reclaim {rest : List EntryNo} (hs : s.Apart e .clean) (hc : s.clean = e :: rest) :
    State.tableConsistent { s.setEntry e none with clean := rest } :=
  hs.place (q := .off) rfl (fun _ hf => State.entry_setEntry_ne s hf.symm _) (State.entry_setEntry_same s e _) rfl
    (State.admits_none hs.but.wide e) (Moves.stays hs.but.wide.dirty hs.dirty)
    (hc ▸ Moves.head (hc ▸ hs.but.wide.clean)) (Moves.stays hs.but.wide.issue (by simp [hs.issue, Seat.atPort]))

end Seats

end Sys2Proof.Machine
end

section
/-!
SUPPORT. Operations that leave the update table's side of the state.
-/

namespace Sys2Proof.Machine

variable {s t : State}

/-! ### Records, latches, alerts and capture slots -/

@[simp] theorem State.raise_tableSide (s : State) (w : WinNo) (i : Nat) (ks : List AlertKind) :
    (s.raise w i ks).tableSide = s.tableSide :=
  foldl_keeps State.tableSide (fun t k => t.raiseOne w i k) (fun _ _ => rfl) ks s

@[simp] theorem State.reportValue_tableSide (s : State) (id : UpId) (key v : Nat) :
    (s.reportValue id key v).tableSide = s.tableSide := by
  unfold State.reportValue
  repeat' split
  all_goals rfl

@[simp] theorem State.reportFailure_tableSide (s : State) (id : UpId) (key : Nat) (st : UpStatus) :
    (s.reportFailure id key st).tableSide = s.tableSide := by
  unfold State.reportFailure
  repeat' split
  all_goals rfl

@[simp] theorem State.failWaiters_tableSide (s : State) (ws : List Waiter) (st : UpStatus) :
    (s.failWaiters ws st).tableSide = s.tableSide := by
  unfold State.failWaiters
  refine foldl_keeps State.tableSide _ (fun a y => ?_) ws s
  split
  · split <;> simp
  · rfl

@[simp] theorem State.slotCaptured_tableSide (s : State) (k : SlotNo) (v : Nat) :
    (s.slotCaptured k v).tableSide = s.tableSide := by
  unfold State.slotCaptured
  split <;> rfl

@[simp] theorem State.latchAtAcceptance_tableSide (s : State) (w : WinNo) (i : Nat) (o : Operation) (id : UpId)
    (link : Nat) : (s.latchAtAcceptance w i o id link).tableSide = s.tableSide := by
  unfold State.latchAtAcceptance
  repeat' split
  all_goals rfl

theorem State.latchServe_tableSide {w : WinNo} {i : Nat} {o : Operation} {id : UpId} {link : Nat}
    (h : s.latchServe w i o id link = some t) : t.tableSide = s.tableSide := by
  unfold State.latchServe at h
  repeat' split at h
  all_goals (cases h; try rfl)

theorem applyWaiter_tableSide (c : WinConfig) (w : WinNo) (i : Nat) (a : WaiterRun) (y : Waiter) :
    (applyWaiter c w i a y).st.tableSide = a.st.tableSide := by
  cases y with
  | op o id link =>
    simp only [applyWaiter]
    split <;> simp
  | capture k =>
    simp only [applyWaiter]
    split <;> simp

theorem State.runWaiters_tableSide (s : State) (x : Entry) (d : Nat) (marked : Bool) (m : Nat) :
    (s.runWaiters x d marked m).st.tableSide = s.tableSide :=
  (foldl_keeps (fun a : WaiterRun => a.st.tableSide) _ (fun a y => applyWaiter_tableSide _ _ _ a y) x.waiters _).trans
    (State.raise_tableSide ..)

/-! ### Windows, the snapshot engine and the fault record -/

@[simp] theorem State.setWinState_tableSide (s : State) (w : WinNo) (x : WinState) :
    (s.setWinState w x).tableSide = s.tableSide := rfl

@[simp] theorem State.armingCheck_tableSide (s : State) (w : WinNo) : (s.armingCheck w).tableSide = s.tableSide := by
  unfold State.armingCheck
  split <;> rfl

@[simp] theorem State.armingChecks_tableSide (s : State) : s.armingChecks.tableSide = s.tableSide :=
  foldl_keeps State.tableSide _ (fun a w => State.armingCheck_tableSide a w) _ s

@[simp] theorem State.drainCheck_tableSide (s : State) (w : WinNo) : (s.drainCheck w).tableSide = s.tableSide := by
  unfold State.drainCheck
  split <;> rfl

@[simp] theorem State.drainChecks_tableSide (s : State) : s.drainChecks.tableSide = s.tableSide :=
  foldl_keeps State.tableSide _ (fun a w => State.drainCheck_tableSide a w) _ s

@[simp] theorem State.completionCheck_tableSide (s : State) : s.completionCheck.tableSide = s.tableSide := by
  unfold State.completionCheck
  repeat' split
  all_goals rfl

@[simp] theorem State.endCheck_tableSide (s : State) : s.endCheck.tableSide = s.tableSide := by
  unfold State.endCheck
  repeat' split
  all_goals rfl

@[simp] theorem State.handFault_tableSide (s : State) (k : FaultKind) (w : WinNo) (i : Nat) :
    (s.handFault k w i).tableSide = s.tableSide := by
  unfold State.handFault
  split <;> rfl

@[simp] theorem State.passCompleted_tableSide (s : State) (r : TagRecord) (id : UpId) (link : Nat) (ok : Bool)
    (data : BitVec 512) : (s.passCompleted r id link ok data).tableSide = s.tableSide := by
  unfold State.passCompleted
  dsimp only
  rw [State.armingChecks_tableSide]
  split <;> rfl

/-! ### The end of a happening -/

@[simp] theorem State.flushAllCheck_tableSide (s : State) : s.flushAllCheck.tableSide = s.tableSide := by
  unfold State.flushAllCheck
  split <;> rfl

@[simp] theorem State.finishCheck_tableSide (s : State) : s.finishCheck.tableSide = s.tableSide := by
  unfold State.finishCheck
  split <;> rfl

@[simp] theorem State.chooseResponse_tableSide (s : State) : s.chooseResponse.tableSide = s.tableSide := by
  unfold State.chooseResponse
  repeat' split
  all_goals rfl

@[simp] theorem State.deliver_tableSide (s : State) : s.deliver.tableSide = s.tableSide := by
  unfold State.deliver
  split <;> rfl

/-! ### Frames and commands -/

theorem withWindow_tableSide {run : WinNo → Reply} (hrun : ∀ w, (run w).st.tableSide = s.tableSide) (w : BitVec 8) :
    (withWindow w s run).st.tableSide = s.tableSide := by
  unfold withWindow
  split
  · exact hrun _
  · rfl

theorem State.windowLoad_tableSide (s : State) (a : LoadArgs) : (s.windowLoad a).st.tableSide = s.tableSide := by
  refine withWindow_tableSide (fun w => ?_) a.window
  repeat' split
  all_goals rfl

theorem State.windowArm_tableSide (s : State) (w : BitVec 8) : (s.windowArm w).st.tableSide = s.tableSide := by
  refine withWindow_tableSide (fun w => ?_) w
  split
  case h_1 | h_2 => exact (State.armingCheck_tableSide _ w).trans rfl
  all_goals rfl

theorem State.windowRelease_tableSide (s : State) (w : BitVec 8) : (s.windowRelease w).st.tableSide = s.tableSide := by
  refine withWindow_tableSide (fun w => ?_) w
  split <;> rfl

theorem State.windowStatus_tableSide (s : State) (w : BitVec 8) : (s.windowStatus w).st.tableSide = s.tableSide := by
  refine withWindow_tableSide (fun w => ?_) w
  rfl

theorem State.setLowMark_tableSide (s : State) (v : BitVec 32) : (s.setLowMark v).st.tableSide = s.tableSide := by
  unfold State.setLowMark
  split <;> rfl

theorem State.setFlushAge_tableSide (s : State) (v : BitVec 32) : (s.setFlushAge v).st.tableSide = s.tableSide := by
  unfold State.setFlushAge
  split <;> rfl

theorem State.setPrescaler_tableSide (s : State) (v : BitVec 32) : (s.setPrescaler v).st.tableSide = s.tableSide := by
  unfold State.setPrescaler
  repeat' split
  all_goals rfl

theorem State.setEnables_tableSide (s : State) (v : BitVec 32) : (s.setEnables v).st.tableSide = s.tableSide := by
  unfold State.setEnables
  split <;> rfl

theorem State.entryReadReply_tableSide (s : State) (r : EntryRef) : (s.entryReadReply r).st.tableSide = s.tableSide := by
  cases r with
  | byNumber e => rfl
  | byCounter w i =>
    refine withWindow_tableSide (fun w => ?_) w
    split <;> rfl

theorem State.softResetFrame_tableSide (s : State) : s.softResetFrame.tableSide = s.tableSide := by
  unfold State.softResetFrame State.softBegin
  dsimp only
  repeat' split
  all_goals rfl

theorem State.startFrame_tableSide (s : State) : s.startFrame.tableSide = s.tableSide := by
  unfold State.startFrame
  split <;> rfl

theorem State.busyFrame_tableSide (s : State) : s.busyFrame.tableSide = s.tableSide := by
  unfold State.busyFrame
  repeat' split
  all_goals rfl

end Sys2Proof.Machine
end

section
/-!
SUPPORT. An update and a use of an entry in HELD or WRITE, as equations of the state (R70, R71, R80).
-/

namespace Sys2Proof.Machine

variable {s : State} {e : EntryNo} {y : Entry} {v : Nat}

@[simp] theorem State.setEntry_setEntry (s : State) (e : EntryNo) (a b : Option Entry) :
    (s.setEntry e a).setEntry e b = s.setEntry e b := by
  simp only [State.setEntry, Vector.set_set]

/-- An update of dirty work dates it, where it had no date. -/
theorem State.markUpdate_dirty (hy : y.body = .held v true) : (s.setEntry e (some y)).markUpdate e =
    s.setEntry e (some { y with dirtySince := some (y.dirtySince.getD s.tick) }) := by
  simp only [State.markUpdate, State.entry_setEntry_same, hy, State.setEntry_setEntry]
  rw [← hy]
  rfl

/-- An update of a clean entry moves it from the clean list to the dirty list's tail. -/
theorem State.markUpdate_clean (hy : y.body = .held v false) : (s.setEntry e (some y)).markUpdate e =
    { s.setEntry e (some { y with body := .held v true, dirtySince := some (y.dirtySince.getD s.tick) }) with
      clean := s.clean.filter (fun f => decide (f ≠ e)), dirty := s.dirty ++ [e] } := by
  simp only [State.markUpdate, State.entry_setEntry_same, hy, State.setEntry_setEntry]
  rfl

/-- An update of an entry in WRITE sets the redirty mark where the entry holds its tag. -/
theorem State.markUpdate_write {r : Bool} (hy : y.body = .write v r) : (s.setEntry e (some y)).markUpdate e =
    s.setEntry e (some { y with
      body := .write v (r || (s.tagOf e).isSome), dirtySince := some (y.dirtySince.getD s.tick) }) := by
  simp only [State.markUpdate, State.entry_setEntry_same, hy, State.setEntry_setEntry]
  rfl

/-- A use of a clean entry moves it to the clean list's tail. -/
theorem State.useClean_clean (hy : y.body = .held v false) :
    (s.setEntry e (some y)).useClean e = (s.setEntry e (some y)).joinClean e := by
  simp only [State.useClean, State.entry_setEntry_same, hy]

/-- A use of another entry changes no list. -/
theorem State.useClean_other (hy : ∀ v, y.body ≠ .held v false) :
    (s.setEntry e (some y)).useClean e = s.setEntry e (some y) := by
  unfold State.useClean
  rw [State.entry_setEntry_same]
  dsimp only
  split
  case h_1 v hb => exact absurd hb (hy v)
  all_goals rfl

/-- A live value stands in HELD and WRITE alone. -/
theorem Body.liveValue_some {b : Body} (h : b.liveValue = some v) : (∃ d, b = .held v d) ∨ ∃ r, b = .write v r := by
  cases b <;> simp_all [Body.liveValue]

end Sys2Proof.Machine
end

section
/-!
SUPPORT. The operations of the table keep it consistent: updates and uses, allocation, freeing, flushes and withdrawal.
-/

namespace Sys2Proof.Machine

variable {s t : State} {e : EntryNo} {x y : Entry} {v : Nat} {w : WinNo} {i : Nat}

/-! ### Updates and uses of an entry (R70, R71, R79, R80) -/

/-- An entry's live value is replaced by an update. -/
theorem State.updated_tableConsistent {u : Nat} (hs : s.tableConsistent) (hx : s.entry e = some x)
    (hv : x.body.liveValue = some u) (hb : y.body = x.body.withValue v) (hw : y.window = x.window)
    (hi : y.index = x.index) (hws : y.waiters = x.waiters) : ((s.setEntry e (some y)).markUpdate e).tableConsistent := by
  obtain ⟨hwide, hseated⟩ := State.tableConsistent_iff.mp hs
  have hidle : x.waiters = [] := by
    by_contra hne
    have := (hseated e).waits x hx hne
    rcases Body.liveValue_some hv with ⟨d, hd⟩ | ⟨r, hr⟩ <;> simp_all [Body.mayWait]
  have hadmit : ∀ z : Entry, z.window = y.window → z.index = y.index → z.waiters = y.waiters → s.Admits e (some z) :=
    fun z hzw hzi hzs => State.admits_fewer hwide hx (hzw.trans hw) (hzi.trans hi) (by simp [hzs, hws, hidle])
      (by rw [hzs, hws])
  have hother : ∀ (o : Option Entry) f, f ≠ e → (s.setEntry e o).entry f = s.entry f :=
    fun o f hf => State.entry_setEntry_ne s hf.symm o
  have hclean : Moves e s.clean s.clean x.body.seat.inClean := by
    refine Moves.stays hwide.clean ((hseated e).clean.trans ?_)
    rw [hx]
    rfl
  rcases Body.liveValue_some hv with ⟨d, hd⟩ | ⟨r, hr⟩
  · rw [hd] at hb
    cases d with
    | true =>
      rw [State.markUpdate_dirty hb]
      exact State.tableConsistent_rewrite hs hx (hother _) (State.entry_setEntry_same ..)
        (by rw [hd]; exact (congrArg Body.seat hb :)) (hadmit _ rfl rfl rfl) rfl hclean rfl rfl
    | false =>
      rw [State.markUpdate_clean hb]
      exact (State.apart hs hx (congrArg Body.seat hd) rfl).clean_to_dirty rfl (hadmit _ rfl rfl rfl)
  · rw [hr] at hb
    rw [State.markUpdate_write hb]
    exact State.tableConsistent_rewrite hs hx (hother _) (State.entry_setEntry_same ..) (by rw [hr]; rfl)
      (hadmit _ rfl rfl rfl) rfl hclean rfl rfl

/-- An entry is rewritten within its body, and used. -/
theorem State.used_tableConsistent (hs : s.tableConsistent) (hx : s.entry e = some x) (hb : y.body = x.body)
    (hw : y.window = x.window) (hi : y.index = x.index) (hws : y.waiters = x.waiters) :
    ((s.setEntry e (some y)).useClean e).tableConsistent := by
  obtain ⟨hwide, hseated⟩ := State.tableConsistent_iff.mp hs
  have hadmit : s.Admits e (some y) :=
    State.admits_fewer hwide hx hw hi (by rw [hb, hws]; exact (hseated e).waits x hx) (by rw [hws])
  have hother : ∀ f, f ≠ e → (s.setEntry e (some y)).entry f = s.entry f :=
    fun f hf => State.entry_setEntry_ne s hf.symm _
  by_cases hc : ∃ v, y.body = .held v false
  · obtain ⟨v, hc⟩ := hc
    rw [State.useClean_clean hc]
    refine State.tableConsistent_rewrite hs hx hother (State.entry_setEntry_same ..) (congrArg Body.seat hb) hadmit rfl
      ?_ rfl rfl
    rw [← hb, hc]
    exact Moves.renews hwide.clean
  · rw [State.useClean_other (not_exists.mp hc)]
    refine State.tableConsistent_rewrite hs hx hother (State.entry_setEntry_same ..) (congrArg Body.seat hb) hadmit rfl
      (Moves.stays hwide.clean ((hseated e).clean.trans ?_)) rfl rfl
    rw [hx]
    rfl

theorem State.applyNow_tableConsistent (hs : s.tableConsistent) (e : EntryNo) (o : Operation) (id : UpId) (link : Nat) :
    (s.applyNow e o id link).tableConsistent := by
  unfold State.applyNow
  split
  · exact hs
  · rename_i x hx
    split
    · exact hs
    · rename_i v hv
      dsimp only
      generalize hu : (if o.kind.isPosted = true then s.raise x.window x.index (applyOutcomes (s.config x.window) o v)
        else (s.raise x.window x.index (applyOutcomes (s.config x.window) o v)).reportValue id link v) = u
      have hside : u.tableSide = s.tableSide := by rw [← hu]; split <;> simp
      have hsu := State.tableConsistent_congr hside hs
      have hxu := (State.entry_of_tableSide hside e).trans hx
      split
      · exact State.updated_tableConsistent hsu hxu hv rfl rfl rfl rfl
      · rename_i hk
        refine State.used_tableConsistent hsu hxu ?_ rfl rfl rfl
        rw [applyValue_of_not_isUpdate (by simpa using hk)]
        exact Body.withValue_of_liveValue hv

theorem State.captureNow_tableConsistent (hs : s.tableConsistent) (e : EntryNo) (k : SlotNo) :
    (s.captureNow e k).tableConsistent := by
  unfold State.captureNow
  split
  · exact hs
  · rename_i x hx
    split
    · exact hs
    · rename_i v hv
      have hside := s.slotCaptured_tableSide k v
      have hsk := State.tableConsistent_congr hside hs
      have hxk := (State.entry_of_tableSide hside e).trans hx
      dsimp only
      split
      · exact State.updated_tableConsistent hsk hxk hv rfl rfl rfl rfl
      · exact State.used_tableConsistent hsk hxk rfl rfl rfl rfl

/-! ### Allocation (R64, R65, R74, R77) -/

/-- The entry an allocation takes is FREE and in no collection, and no counter gains an entry by it. -/
theorem State.obtain_tableConsistent (hs : s.tableConsistent) (h : s.obtain = some (e, t)) :
    t.Apart e .off ∧ t.entry e = none ∧ ∀ f, t.entry f = s.entry f ∨ t.entry f = none := by
  rcases State.obtain_cases h with ⟨hf, rfl⟩ | ⟨-, rest, hc, rfl⟩
  · have hfree := State.lowestFree_free hf
    exact ⟨State.apart hs hfree rfl rfl, hfree, fun f => .inl rfl⟩
  · have hfree := State.entry_setEntry_same s e none
    have hmem : e ∈ s.clean := by simp [hc]
    obtain ⟨x, v, hx, hb⟩ := inClean_seatOf_iff.mp (((State.tableConsistent_iff.mp hs).2 e).clean.mp hmem)
    have hs' := (State.apart hs hx (congrArg Body.seat hb) rfl).reclaim hc
    refine ⟨State.apart hs' hfree rfl rfl, hfree, fun f => ?_⟩
    have hset := State.entry_setEntry s e f none
    by_cases hf : e = f
    · exact .inr (hset.trans (if_pos hf))
    · exact .inl (hset.trans (if_neg hf))

/-- Entries that go FREE return their waiters to the pool. -/
theorem State.waiting_le (h : ∀ f, waitersOf (t.entry f) ≤ waitersOf (s.entry f)) : t.waiting ≤ s.waiting := by
  simp only [State.waiting, State.entries_toList, List.map_map]
  exact List.sum_le_sum fun f _ => h f

/-- A counter without an entry may have one with these waiters, where the pool has room for them. -/
theorem State.admits_new (hf : t.entry e = none) (hl : t.lookup y.window y.index = none)
    (hwaits : y.waiters ≠ [] → y.body.mayWait = true) (hpool : t.waiting + y.waiters.length ≤ 64) :
    t.Admits e (some y) where
  waits := by
    rintro _ ⟨⟩
    exact hwaits
  counter := by
    rintro w i hn f -
    obtain ⟨rfl, rfl⟩ := namesCounter_some.mp hn
    exact State.not_names_of_lookup_none hl f
  pool := by
    rw [hf]
    simpa [waitersOf] using hpool

/-- An entry obtained for a counter without one may be that counter's. -/
theorem State.obtain_admits (hs : s.tableConsistent) (hl : s.lookup w i = none) (h : s.obtain = some (e, t))
    (hw : y.window = w) (hi : y.index = i) (hwaits : y.waiters ≠ [] → y.body.mayWait = true)
    (hpool : s.waiting + y.waiters.length ≤ 64) : t.Admits e (some y) := by
  obtain ⟨hapart, hfree, hsub⟩ := State.obtain_tableConsistent hs h
  have hless : t.waiting ≤ s.waiting := State.waiting_le fun f => by
    rcases hsub f with hf | hf <;> simp [hf, waitersOf]
  refine State.admits_new hfree (State.lookup_none.mpr fun f z hz => ?_) hwaits (by omega)
  rw [hw, hi]
  rcases hsub f with hf | hf
  · exact State.lookup_none.mp hl f z (hf ▸ hz)
  · rw [hf] at hz
    cases hz

/-! ### Waiters and gathered work (R75 to R78, R81, R82) -/

theorem State.appendWaiters_tableConsistent (hs : s.tableConsistent) {ws : List Waiter}
    (hpool : s.waiting + ws.length ≤ 64) (e : EntryNo) (update marked : Bool) :
    (s.appendWaiters e ws update marked).tableConsistent := by
  obtain ⟨hwide, hseated⟩ := State.tableConsistent_iff.mp hs
  unfold State.appendWaiters
  split
  · exact hs
  · rename_i x hx
    have hroom : s.waiting + (x.waiters ++ ws).length ≤ 64 + x.waiters.length := by
      rw [List.length_append]
      omega
    dsimp only
    split
    case h_1 d m hb =>
      exact (State.apart hs hx (congrArg Body.seat hb) rfl).dirty_to_port rfl
        (State.admits_same hwide hx rfl rfl (fun _ => rfl) hroom)
    case h_2 d m q hb =>
      refine State.tableConsistent_rewrite hs hx (fun f hf => State.entry_setEntry_ne s hf.symm _)
        (State.entry_setEntry_same ..) rfl (State.admits_same hwide hx rfl rfl (fun _ => congrArg Body.mayWait hb) hroom)
        rfl (Moves.stays hwide.clean ((hseated e).clean.trans ?_)) rfl rfl
      rw [hx]
      rfl
    all_goals exact hs

/-- An entry changes in nothing but its body's and its own fields: its counter, its waiters and its seat stay. -/
theorem State.mapEntry_tableConsistent (hs : s.tableConsistent) (e : EntryNo) {f : Entry → Entry}
    (hf : ∀ x, (f x).window = x.window ∧ (f x).index = x.index ∧ (f x).waiters = x.waiters ∧
      (f x).body.seat = x.body.seat ∧ (f x).body.mayWait = x.body.mayWait) : (s.mapEntry e f).tableConsistent := by
  obtain ⟨hwide, hseated⟩ := State.tableConsistent_iff.mp hs
  unfold State.mapEntry
  split
  · rename_i x hx
    obtain ⟨hw, hi, hws, hseat, hmay⟩ := hf x
    refine State.tableConsistent_rewrite hs hx (fun f hf => State.entry_setEntry_ne s hf.symm _)
      (State.entry_setEntry_same ..) hseat (State.admits_fewer hwide hx hw hi ?_ (by rw [hws])) rfl
      (Moves.stays hwide.clean ((hseated e).clean.trans ?_)) rfl rfl
    · rw [hws, hmay]
      exact (hseated e).waits x hx
    · rw [hx]
      rfl
  · exact hs

theorem State.foldAdd_tableConsistent (hs : s.tableConsistent) (e : EntryNo) (a : Nat) :
    (s.foldAdd e a).tableConsistent :=
  State.mapEntry_tableConsistent hs e fun x => by
    cases hb : x.body <;> simp [hb, Body.seat, Body.mayWait]

/-! ### Acceptance and capture requests (R66, R73 to R83) -/

theorem length_opWaiters (cap : Option SlotNo) (o : Operation) (id : UpId) (link : Nat) :
    (opWaiters cap o id link).length = if cap.isSome then 2 else 1 := by
  cases cap <;> rfl

/-- An operation is carried out where the pool has the records that R66's table asks for. -/
theorem State.carryOut_tableConsistent (hs : s.tableConsistent) {o : Operation} {cap : Option SlotNo}
    (hneed : s.waiting + waiterNeed (s.counterEntry w i) o.kind cap.isSome ≤ 64) (id : UpId) (link : Nat) :
    (s.carryOut w i o id link cap).tableConsistent := by
  have hlen := length_opWaiters cap o id link
  unfold State.carryOut
  dsimp only
  split
  · rename_i hl
    rw [State.counterEntry_of_lookup_none hl] at hneed
    split
    · exact hs
    · rename_i e t ho
      obtain ⟨hapart, -, -⟩ := State.obtain_tableConsistent hs ho
      split
      · exact hapart.off_to_dirty rfl (State.obtain_admits hs hl ho rfl rfl (by simp)
          (State.tableConsistent_iff.mp hs).1.pool)
      · rename_i hblind
        refine hapart.off_to_port rfl (State.obtain_admits hs hl ho rfl rfl (fun _ => rfl) ?_)
        dsimp only
        rw [hlen]
        cases cap <;> simp_all [waiterNeed]
  · rename_i e hl
    rw [State.counterEntry_of_lookup_some hl] at hneed
    split
    · exact hs
    · rename_i x hx
      have happend : (if cap.isSome then 2 else 1) ≤ waiterNeed (some x) o.kind cap.isSome →
          ∀ u m, (s.appendWaiters e (opWaiters cap o id link) u m).tableConsistent := fun hle u m =>
        State.appendWaiters_tableConsistent hs (by rw [hlen]; rw [hx] at hneed; omega) e u m
      split
      case h_1 d m hb =>
        split
        · exact State.foldAdd_tableConsistent hs e _
        · rename_i hblind
          refine happend ?_ _ _
          simp only [waiterNeed, hb]
          cases cap with
          | some k => exact Nat.le_refl 2
          | none =>
            rw [Option.isNone_none, Bool.and_true] at hblind
            exact (if_neg hblind).ge
      case h_2 d m q hb =>
        split
        · exact State.foldAdd_tableConsistent hs e _
        · rename_i hblind
          refine happend ?_ _ _
          simp only [waiterNeed, hb]
          cases cap with
          | some k => exact Nat.le_refl 2
          | none =>
            rw [Option.isNone_none, Bool.and_true] at hblind
            exact (if_neg hblind).ge
      case h_3 | h_4 =>
        split
        · exact State.applyNow_tableConsistent (State.captureNow_tableConsistent hs _ _) ..
        · exact State.applyNow_tableConsistent hs ..
      all_goals exact hs

/-- What the pool can give, an entry may take. -/
theorem State.waiting_add_le (hs : s.tableConsistent) {n : Nat} (h : n ≤ s.freeWaiters) : s.waiting + n ≤ 64 := by
  have hpool := (State.tableConsistent_iff.mp hs).1.pool
  have hfree : s.freeWaiters = 64 - s.waiting := rfl
  omega

theorem State.accept_tableConsistent (hs : s.tableConsistent) {o : Operation}
    (hneed : waiterNeed (s.counterEntry w i) o.kind (s.earlyCapture w i o.kind) ≤ s.freeWaiters) (id : UpId)
    (link : Nat) : (s.accept w i o id link).tableConsistent := by
  have hroom := State.waiting_add_le hs hneed
  unfold State.accept
  split
  · rename_i hcap
    rw [hcap] at hroom
    split
    · rename_i k _
      exact State.carryOut_tableConsistent (s := s.takeEarly i k) (o := o) (cap := some k) (State.tableConsistent_congr rfl hs) hroom id link
    · exact hs
  · rename_i hcap
    rw [Bool.not_eq_true] at hcap
    rw [hcap] at hroom
    exact State.carryOut_tableConsistent hs hroom id link

theorem State.requestCapture_tableConsistent (hs : s.tableConsistent)
    (hneed : waiterNeed (s.counterEntry w i) .read false ≤ s.freeWaiters) (k : SlotNo) :
    (s.requestCapture w i k).tableConsistent := by
  have hroom := State.waiting_add_le hs hneed
  unfold State.requestCapture
  split
  · rename_i hl
    rw [State.counterEntry_of_lookup_none hl] at hroom
    split
    · exact hs
    · rename_i e t ho
      exact (State.obtain_tableConsistent hs ho).1.off_to_port rfl
        (State.obtain_admits hs hl ho rfl rfl (fun _ => rfl) (by simpa [waiterNeed, OpKind.isAdd] using hroom))
  · rename_i e hl
    rw [State.counterEntry_of_lookup_some hl] at hroom
    split
    · exact hs
    · rename_i x hx
      rw [hx] at hroom
      split
      case h_1 d m hb =>
        exact State.appendWaiters_tableConsistent hs (by simpa [waiterNeed, hb, OpKind.isAdd] using hroom) e _ _
      case h_2 d m q hb =>
        exact State.appendWaiters_tableConsistent hs (by simpa [waiterNeed, hb, OpKind.isAdd] using hroom) e _ _
      case h_3 | h_4 => exact State.captureNow_tableConsistent hs ..
      all_goals exact hs

end Sys2Proof.Machine
end

section
/-!
SUPPORT. Flushes, freeings, withdrawals, the walk and the treatment of requests keep the table consistent.
-/

namespace Sys2Proof.Machine

variable {s t : State} {e : EntryNo} {x : Entry} {w : WinNo} {i : Nat}

/-! ### Flushes and freeings (R65, R96, R98, R100 to R103) -/

theorem State.startFlush_tableConsistent (hs : s.tableConsistent) (e : EntryNo) : (s.startFlush e).tableConsistent := by
  have hwide := (State.tableConsistent_iff.mp hs).1
  have hseated := (State.tableConsistent_iff.mp hs).2 e
  rcases s.startFlush_cases e with h | ⟨x, b, hx, hb, h⟩
  · rwa [h]
  · rw [h]
    have hidle : x.body.mayWait = false → x.waiters = [] := fun hmay => by
      by_contra hne
      rw [hseated.waits x hx hne] at hmay
      cases hmay
    rcases hb with ⟨d, m, hb, rfl⟩ | ⟨v, hb, rfl⟩ <;>
      exact (State.apart hs hx (congrArg Body.seat hb) rfl).dirty_to_port rfl
        (State.admits_fewer hwide hx rfl rfl (by simp [hidle (congrArg Body.mayWait hb)]) (Nat.le_refl _))

theorem State.startFlushes_tableConsistent (hs : s.tableConsistent) (es : List EntryNo) :
    (s.startFlushes es).tableConsistent := by
  induction es generalizing s with
  | nil => exact hs
  | cons e es ih => exact ih (State.startFlush_tableConsistent hs e)

theorem State.ageCheck_tableConsistent (hs : s.tableConsistent) : s.ageCheck.tableConsistent := by
  unfold State.ageCheck
  split
  · exact hs
  · exact State.startFlushes_tableConsistent hs _

/-- Entries that the memory port has no part in go FREE. -/
theorem State.freeEntries_tableConsistent (hs : s.tableConsistent) {es : List EntryNo}
    (h : ∀ e ∈ es, (seatOf (s.entry e)).atPort = false) : (s.freeEntries es).tableConsistent := by
  induction es generalizing s with
  | nil => exact hs
  | cons e es ih =>
    refine ih (State.apart hs rfl rfl (h e (by simp))).freeEntry fun f hf => ?_
    have hset : (s.freeEntry e).entry f = if e = f then none else s.entry f := State.entry_setEntry s e f none
    rw [hset]
    split
    · rfl
    · exact h f (by simp [hf])

theorem State.clean_off_port (hs : s.tableConsistent) (he : e ∈ s.clean) : (seatOf (s.entry e)).atPort = false := by
  have hc := ((State.tableConsistent_iff.mp hs).2 e).clean.mp he
  cases hseat : seatOf (s.entry e) <;> simp_all [Seat.inClean, Seat.atPort]

theorem State.pressureAct_tableConsistent (hs : s.tableConsistent) : s.pressureAct.tableConsistent := by
  unfold State.pressureAct
  split
  · exact hs
  · exact State.startFlushes_tableConsistent (State.freeEntries_tableConsistent hs fun e he => State.clean_off_port hs he) _

theorem State.drainStart_tableConsistent (hs : s.tableConsistent) (w : WinNo) : (s.drainStart w).tableConsistent := by
  have hflushed := State.startFlushes_tableConsistent hs (s.ofWindow w s.dirty)
  exact State.freeEntries_tableConsistent hflushed fun e he => State.clean_off_port hflushed (List.mem_of_mem_filter he)

theorem State.faultExit_tableConsistent (hs : s.tableConsistent) (w : WinNo) : (s.faultExit w).tableConsistent := by
  unfold State.faultExit
  split
  · split
    · split
      · exact State.tableConsistent_congr rfl hs
      · exact State.drainStart_tableConsistent (State.tableConsistent_congr (s.setWinState_tableSide w _) hs) w
    · exact hs
  all_goals exact hs

theorem State.tickOnce_tableConsistent (hs : s.tableConsistent) : s.tickOnce.tableConsistent := by
  have hticked : ({ s with tick := s.tick + 1, clock := 0, flushAgeInEffect := s.flushAge } : State).tableConsistent :=
    State.tableConsistent_congr rfl hs
  unfold State.tickOnce
  dsimp only
  split
  · exact hticked
  · exact State.startFlushes_tableConsistent hticked _

/-! ### Marks and withdrawals in every entry (R84, R106) -/

/-- Every entry loses waiters at most, and keeps its counter and its body. -/
theorem State.tableConsistent_map {f : Entry → Entry} (hs : s.tableConsistent)
    (he : t.entries = s.entries.map (Option.map f))
    (hf : ∀ x, (f x).body = x.body ∧ (f x).window = x.window ∧ (f x).index = x.index ∧ (f x).waiters.Sublist x.waiters)
    (hd : t.dirty = s.dirty) (hc : t.clean = s.clean) (hi : t.issue = s.issue) (hh : t.holds = s.holds) :
    t.tableConsistent := by
  obtain ⟨hwide, hseated⟩ := State.tableConsistent_iff.mp hs
  have hentry : ∀ e, t.entry e = (s.entry e).map f := fun e => by
    simp only [State.entry, he, Fin.getElem_fin, Vector.getElem_map]
  have hseat : ∀ e, seatOf (t.entry e) = seatOf (s.entry e) := fun e => by
    rw [hentry]
    cases s.entry e with
    | none => rfl
    | some x => exact congrArg Body.seat (hf x).1
  have hsome : ∀ {e y}, t.entry e = some y → ∃ x, s.entry e = some x ∧ f x = y := fun {e y} hy => by
    rw [hentry] at hy
    exact Option.map_eq_some_iff.mp hy
  refine State.tableConsistent_iff.mpr ⟨⟨hd ▸ hwide.dirty, hc ▸ hwide.clean, hi ▸ hwide.issue, ?_, ?_⟩, fun e => ?_⟩
  · intro e g x y hx hy hw hidx
    obtain ⟨x', hx', rfl⟩ := hsome hx
    obtain ⟨y', hy', rfl⟩ := hsome hy
    obtain ⟨-, hxw, hxi, -⟩ := hf x'
    obtain ⟨-, hyw, hyi, -⟩ := hf y'
    exact hwide.counters e g x' y' hx' hy' (by rw [← hxw, ← hyw, hw]) (by rw [← hxi, ← hyi, hidx])
  · refine Nat.le_trans (State.waiting_le fun e => ?_) hwide.pool
    rw [hentry]
    cases s.entry e with
    | none => exact Nat.le_refl _
    | some x =>
      obtain ⟨-, -, -, hsub⟩ := hf x
      exact hsub.length_le
  · obtain ⟨hde, hce, hie, hte, hse, hwe⟩ := hseated e
    refine ⟨by rw [hd, hseat, hde], by rw [hc, hseat, hce], by rw [hi, hseat, hie, State.untagged, State.untagged, hh],
      fun g k hg => by rw [hseat]; exact hte g k (hh ▸ hg), fun g h k l hg hl => hse g h k l (hh ▸ hg) (hh ▸ hl),
      fun y hy hne => ?_⟩
    obtain ⟨x, hx, rfl⟩ := hsome hy
    obtain ⟨hb, -, -, hsub⟩ := hf x
    rw [hb]
    refine hwe x hx fun hnil => hne ?_
    rw [hnil] at hsub
    exact List.sublist_nil.mp hsub

theorem State.withdrawCaptures_tableConsistent (hs : s.tableConsistent) : s.withdrawCaptures.tableConsistent :=
  State.tableConsistent_map hs rfl (fun x => by split <;> simp) rfl rfl rfl rfl

theorem State.flushAllStart_tableConsistent (hs : s.tableConsistent) : s.flushAllStart.tableConsistent := by
  refine State.startFlushes_tableConsistent ?_ _
  exact State.tableConsistent_map hs rfl (fun x => ⟨rfl, rfl, rfl, List.Sublist.refl _⟩) rfl rfl rfl rfl

theorem State.leaveRunning_tableConsistent (hs : s.tableConsistent) (q : Ending) : (s.leaveRunning q).tableConsistent :=
  State.tableConsistent_congr (s := s.withdrawCaptures) rfl (State.withdrawCaptures_tableConsistent hs)

theorem State.failSnapshot_tableConsistent (hs : s.tableConsistent) (i : Nat) : (s.failSnapshot i).tableConsistent := by
  unfold State.failSnapshot
  split
  · exact State.tableConsistent_congr (s := s.leaveRunning .failed) rfl (State.leaveRunning_tableConsistent hs .failed)
  · exact State.tableConsistent_congr rfl hs
  all_goals exact hs

theorem State.snapshotFaulted_tableConsistent (hs : s.tableConsistent) (w : WinNo) (i : Nat) :
    (s.snapshotFaulted w i).tableConsistent := by
  unfold State.snapshotFaulted
  split
  · split
    · exact State.tableConsistent_congr (State.endCheck_tableSide _) (State.failSnapshot_tableConsistent hs i)
    · exact hs
  · exact hs

theorem State.strandingEffects_tableConsistent (hs : s.tableConsistent) (k : FaultKind) (w : WinNo) (i : Nat) :
    (s.strandingEffects k w i).tableConsistent := by
  refine State.tableConsistent_congr (State.handFault_tableSide _ k w i) ?_
  unfold State.enterFault
  split
  case h_1 | h_2 =>
    exact State.snapshotFaulted_tableConsistent (State.tableConsistent_congr (s.setWinState_tableSide w _) hs) w i
  all_goals exact hs

/-! ### The walk (R132, R133) -/

theorem State.walkLackOf_none_room (h : s.walkLackOf w i = none) :
    waiterNeed (s.counterEntry w i) .read false ≤ s.freeWaiters := by
  unfold State.walkLackOf at h
  repeat' split at h
  case isFalse.isFalse hroom => exact Nat.not_lt.mp hroom
  all_goals cases h

theorem State.walkStep_tableConsistent (hs : s.tableConsistent) : s.walkStep.tableConsistent := by
  unfold State.walkStep
  split
  · split
    · exact hs
    · rename_i b _
      rcases skipExceptions s.snap.exceptions.length b s.snap.exceptions with ⟨b1, xs⟩
      dsimp only
      split
      · split
        · exact State.tableConsistent_congr rfl hs
        · rename_i hlack
          refine State.requestCapture_tableConsistent ?_ ?_ 16
          · exact State.tableConsistent_congr rfl hs
          · exact (State.walkLackOf_none_room hlack :)
      · exact State.tableConsistent_congr ((State.completionCheck_tableSide _).trans rfl) hs
  · exact hs

theorem State.retryWalk_tableConsistent (hs : s.tableConsistent) : s.retryWalk.tableConsistent := by
  unfold State.retryWalk
  split
  · exact State.walkStep_tableConsistent hs
  all_goals exact hs

theorem State.destinationWritten_tableConsistent (hs : s.tableConsistent) (k : SlotNo) :
    (s.destinationWritten k).tableConsistent := by
  have hslot : (s.setSlot k .free).tableConsistent := State.tableConsistent_congr rfl hs
  unfold State.destinationWritten
  dsimp only
  split
  · exact State.tableConsistent_congr (by simp) (State.walkStep_tableConsistent hslot)
  · exact State.tableConsistent_congr (by simp) hslot

theorem State.destinationFailed_tableConsistent (hs : s.tableConsistent) (k : SlotNo) :
    (s.destinationFailed k).tableConsistent := by
  have hslot : (s.setSlot k .free).tableConsistent := State.tableConsistent_congr rfl hs
  unfold State.destinationFailed
  split
  · refine State.tableConsistent_congr (State.endCheck_tableSide _) (State.failSnapshot_tableConsistent ?_ _)
    exact State.tableConsistent_congr (State.handFault_tableSide ..) hslot
  · exact hslot

/-! ### Requests (R42 to R48) -/

theorem State.offerLack_none_room {k : OpKind} (h : s.offerLack w i k = none) :
    waiterNeed (s.counterEntry w i) k (s.earlyCapture w i k) ≤ s.freeWaiters := by
  unfold State.offerLack at h
  dsimp only at h
  repeat' split at h
  case isFalse.isFalse.isFalse.isFalse hroom => exact Nat.not_lt.mp hroom
  all_goals cases h

theorem State.offer_tableConsistent (hs : s.tableConsistent) {o : Operation} {id : UpId} {link : Nat}
    (h : s.offer w i o id link = .settled t) : t.tableConsistent := by
  rcases s.offer_cases w i o id link with ⟨u, hu, ho⟩ | ⟨-, ⟨-, -, ho⟩ | ⟨r, -, ho⟩ | ⟨hlack, ho⟩⟩ <;>
    rw [ho] at h <;> cases h
  · exact State.tableConsistent_congr (State.latchServe_tableSide hu) hs
  · exact State.tableConsistent_congr rfl hs
  · have hroom := State.offerLack_none_room hlack
    have hlatch : ((s.latchAtAcceptance w i o id link).accept w i o id link).tableConsistent := by
      rcases s.latchAtAcceptance_cases w i o id link with hl | ⟨l, hl⟩ <;> rw [hl]
      · exact State.accept_tableConsistent hs hroom id link
      · exact State.accept_tableConsistent (s := s.setLatch id l) (State.tableConsistent_congr rfl hs) hroom id link
    split
    · exact State.tableConsistent_congr rfl hlatch
    · exact hlatch

theorem State.treat_tableConsistent (hs : s.tableConsistent) {d : CounterOp} {id : UpId} {link : Nat}
    (h : s.treat d id link = .settled t) : t.tableConsistent := by
  rcases s.treat_cases d id link with ht | ⟨ht, -⟩ | ⟨st, -, ht⟩ <;> rw [ht] at h
  · exact State.offer_tableConsistent hs h
  · cases h
  · cases h
    exact State.tableConsistent_congr rfl hs

theorem State.retryHold_tableConsistent (hs : s.tableConsistent) : s.retryHold.tableConsistent := by
  unfold State.retryHold
  split
  · exact hs
  · split
    · rename_i t ht
      exact State.tableConsistent_congr (s := t) rfl (State.treat_tableConsistent hs ht)
    · exact State.tableConsistent_congr rfl hs

theorem State.takeCounter_tableConsistent (hs : s.tableConsistent) (w : WinNo) (r : Request) :
    (s.takeCounter w r).tableConsistent := by
  unfold State.takeCounter
  dsimp only
  split
  · exact State.tableConsistent_congr rfl hs
  · split
    · rename_i d _ _ u hu
      exact State.treat_tableConsistent (s := s.appendRecord r d.op.lane) (State.tableConsistent_congr rfl hs) hu
    · exact State.tableConsistent_congr rfl hs

theorem State.takeHead_tableConsistent (hs : s.tableConsistent) (h : s.takeHead = some t) : t.tableConsistent := by
  obtain ⟨r, rest, -, -, ⟨-, rfl⟩ | ⟨w, -, rfl⟩⟩ := State.takeHead_cases h
  · exact State.tableConsistent_congr rfl hs
  · exact State.takeCounter_tableConsistent (s := { s with channel := rest }) (State.tableConsistent_congr rfl hs) w r

/-! ### Retries of stranded entries (R156, R159) -/

theorem State.reenter_tableConsistent (hs : s.tableConsistent) (e : EntryNo) : (s.reenter e).tableConsistent := by
  have hwide := (State.tableConsistent_iff.mp hs).1
  have hseated := (State.tableConsistent_iff.mp hs).2 e
  unfold State.reenter
  split
  · exact hs
  · rename_i x hx
    split
    case h_1 d m q hb =>
      exact (State.apart hs hx (congrArg Body.seat hb) rfl).off_to_port rfl
        (State.admits_fewer hwide hx rfl rfl (fun _ => rfl) (Nat.le_refl _))
    case h_2 v hb =>
      refine (State.apart hs hx (congrArg Body.seat hb) rfl).off_to_port rfl
        (State.admits_fewer hwide hx rfl rfl (fun hne => ?_) (Nat.le_refl _))
      have hmay := hseated.waits x hx hne
      rw [hb] at hmay
      cases hmay
    all_goals exact hs

theorem State.reenterAll_tableConsistent (hs : s.tableConsistent) (w : WinNo) : (s.reenterAll w).tableConsistent := by
  unfold State.reenterAll
  generalize s.strandedOf w = es
  induction es generalizing s with
  | nil => exact hs
  | cons e es ih => exact ih (State.reenter_tableConsistent hs e)

theorem State.discardAll_tableConsistent (hs : s.tableConsistent) (w : WinNo) : (s.discardAll w).tableConsistent := by
  refine State.faultExit_tableConsistent (State.freeEntries_tableConsistent hs fun e he => ?_) w
  obtain ⟨x, hx, -, hstr⟩ := State.mem_strandedOf.mp he
  rw [hx, seatOf]
  cases hb : x.body <;> simp_all [Body.isStranded, Body.seat, Seat.atPort]

end Sys2Proof.Machine
end

section
/-!
SUPPORT. Grants and responses keep the table consistent: the tags of its transactions (R72, R88, R90, R113, R115, R122).
-/

namespace Sys2Proof.Machine

variable {s t : State} {e : EntryNo} {x y : Entry} {g : Tag}

/-! ### Tags -/

theorem State.holds_setTag_some (g h : Tag) (r : TagRecord) (f : EntryNo) (k : ReqKind) :
    (s.setTag g (some r)).holds h f k ↔ if g = h then r.owner = .table f ∧ r.kind = k else s.holds h f k := by
  unfold State.holds
  rw [State.tagAt_setTag]
  split <;> simp

theorem State.holds_setTag_none (g h : Tag) (f : EntryNo) (k : ReqKind) :
    (s.setTag g none).holds h f k ↔ g ≠ h ∧ s.holds h f k := by
  unfold State.holds
  rw [State.tagAt_setTag]
  split <;> simp_all

/-- A tag that is free or another claimant's. -/
def notTables (o : Option TagRecord) : Prop :=
  ∀ r, o = some r → ∀ e, r.owner ≠ .table e

/-- Taking and freeing the tags of other claimants does not concern the table. -/
theorem State.setTag_tableSide {o : Option TagRecord} (hold : notTables (s.tagAt g)) (hnew : notTables o) :
    (s.setTag g o).tableSide = s.tableSide := by
  have hh : (s.setTag g o).holds = s.holds := by
    funext h f k
    by_cases hgh : g = h
    · subst hgh
      refine propext ⟨?_, ?_⟩
      · rintro ⟨r, hr, ho, -⟩
        rw [State.tagAt_setTag_same] at hr
        exact absurd ho (hnew r hr f)
      · rintro ⟨r, hr, ho, -⟩
        exact absurd ho (hold r hr f)
    · unfold State.holds
      rw [State.tagAt_setTag, if_neg hgh]
  unfold State.tableSide
  rw [hh]
  rfl

/-! ### Grants (R72, R88, R120) -/

/-- The head of the issue queue leaves it with the lowest free tag, for the transaction its state calls for. -/
theorem State.tableConsistent_granted {rest : List EntryNo} {r : TagRecord} (hs : s.tableConsistent)
    (hi : s.issue = e :: rest) (hg : s.tagAt g = none) (ho : r.owner = .table e)
    (hother : ∀ f, f ≠ e → t.entry f = s.entry f) (hy : t.entry e = some y) (hadmit : s.Admits e (some y))
    (hseat : seatOf (s.entry e) = .port r.kind) (hport : y.body.seat = .port r.kind) (hd : t.dirty = s.dirty)
    (hc : t.clean = s.clean) (hq : t.issue = rest) (hh : t.holds = (s.setTag g (some r)).holds) : t.tableConsistent := by
  obtain ⟨hwide, hseated⟩ := State.tableConsistent_iff.mp hs
  obtain ⟨hde, hce, hie, -, -, -⟩ := hseated e
  have hfree : s.untagged e := (hie.mp (by simp [hi])).2
  have hholds : ∀ h f k, t.holds h f k ↔ if g = h then r.owner = .table f ∧ r.kind = k else s.holds h f k :=
    fun h f k => by rw [hh, State.holds_setTag_some]
  have hown : ∀ h k, t.holds h e k → g = h ∧ r.kind = k := fun h k hk => by
    rw [hholds] at hk
    split at hk
    · rename_i hgh
      exact ⟨hgh, hk.2⟩
    · exact absurd hk (hfree h k)
  have hmoves := Moves.head (hi ▸ hwide.issue)
  have hsame : seatOf (t.entry e) = seatOf (s.entry e) := by rw [hy, hseat]; exact hport
  refine (State.tableBut hs e).close hother (hy.symm ▸ hadmit) (Moves.kept hwide.dirty hd) (Moves.kept hwide.clean hc)
    (bi := false) (by rw [hi, hq]; exact hmoves) (fun f hf h k => ?_) ?_
  · rw [hholds]
    split
    · rename_i hgh
      subst hgh
      refine iff_of_false (fun hr => hf ?_) ?_
      · exact (Owner.table.inj (ho.symm.trans hr.1)).symm
      · rintro ⟨r', hr', -⟩
        rw [hg] at hr'
        cases hr'
    · exact Iff.rfl
  · exact {
      dirty := by rw [hd, hsame, hde]
      clean := by rw [hc, hsame, hce]
      issue := by
        rw [hq]
        refine iff_of_false ((Iff.not hmoves.here).mpr Bool.false_ne_true) fun hn => hn.2 g r.kind ?_
        rw [hholds, if_pos rfl]
        exact ⟨ho, rfl⟩
      tag := fun h k hk => by rw [hsame, hseat, (hown h k hk).2]
      single := fun h l k m hk hl => (hown h k hk).1.symm.trans (hown l m hl).1
      waits := fun z hz => hadmit.waits z (by rw [← hy]; exact hz) }

theorem State.grantTable_tableConsistent (hs : s.tableConsistent) (hg : s.tagAt g = none) :
    (s.grantTable g).tableConsistent := by
  obtain ⟨hwide, hseated⟩ := State.tableConsistent_iff.mp hs
  cases hi : s.issue with
  | nil => simpa only [State.grantTable, hi] using hs
  | cons e rest =>
    obtain ⟨x, hx, ⟨d, m, q, hb⟩ | ⟨v, r, hb⟩⟩ := atPort_seatOf_iff.mp ((hseated e).issue.mp (by simp [hi])).1
    · rw [State.grantTable_fetch hi hx hb]
      exact State.tableConsistent_granted (r := ⟨.table e, .read, _, _⟩) hs hi hg rfl (fun _ _ => rfl) hx
        (State.admits_fewer hwide hx rfl rfl ((hseated e).waits x hx) (Nat.le_refl _))
        (by rw [hx]; exact congrArg Body.seat hb) (congrArg Body.seat hb) rfl rfl rfl rfl
    · rw [State.grantTable_write hi hx hb]
      refine State.tableConsistent_granted (r := ⟨.table e, .write, _, _⟩) hs hi hg rfl (fun f hf => State.entry_setEntry_ne s hf.symm _)
        (State.entry_setEntry_same s e _) (State.admits_fewer hwide hx rfl rfl ?_ (Nat.le_refl _))
        (by rw [hx]; exact congrArg Body.seat hb) rfl rfl rfl rfl rfl
      intro hne
      have hmay := (hseated e).waits x hx hne
      rw [hb] at hmay
      cases hmay

theorem State.grantPass_tableSide (hg : s.tagAt g = none) : (s.grantPass g).tableSide = s.tableSide := by
  cases hc : s.channel with
  | nil => simp only [State.grantPass, hc]
  | cons r rest =>
    rw [State.grantPass_head hc]
    refine (State.setTag_tableSide (s := s) (g := g) ?_ ?_ :) <;> rintro q hq
    · rw [hg] at hq
      cases hq
    · cases hq
      exact fun e he => by cases he

theorem State.grantSnap_tableSide (hg : s.tagAt g = none) : (s.grantSnap g).tableSide = s.tableSide := by
  have hnone : notTables (s.tagAt g) := by
    rintro q hq
    rw [hg] at hq
    cases hq
  unfold State.grantSnap
  split
  · split
    case h_1 =>
      refine (State.setTag_tableSide (s := s) (g := g) hnone ?_ :)
      rintro q ⟨⟩ e he
      cases he
    all_goals rfl
  · rfl

theorem State.grant_tableConsistent (hs : s.tableConsistent) : s.grant.tableConsistent := by
  cases hc : s.chosen with
  | none => rwa [State.grant_idle hc]
  | some c =>
    cases hg : s.lowestTag with
    | none => simpa only [State.grant, hc, hg] using hs
    | some g =>
      have hfree := State.lowestTag_free hg
      have hp : ∀ c second, (s.pointed c second).tableConsistent := fun c second => State.tableConsistent_congr rfl hs
      cases c with
      | pass =>
        rw [State.grant_pass hc hg]
        exact State.tableConsistent_congr (State.grantPass_tableSide (s := s.pointed .pass false) hfree) (hp _ _)
      | table =>
        rw [State.grant_table hc hg]
        exact State.grantTable_tableConsistent (hp _ _) hfree
      | snap =>
        rw [State.grant_snap hc hg]
        exact State.tableConsistent_congr (State.grantSnap_tableSide (s := s.pointed .snap false) hfree) (hp _ _)

/-! ### Returns (R85 to R90, R149, R150) -/

/-- An entry whose waiters are gone may stand in its place in any state. -/
theorem State.Apart.admits_idle {p : Seat} (hs : s.Apart e p) (hx : s.entry e = some x) (hw : y.window = x.window)
    (hi : y.index = x.index) (hws : y.waiters = []) : s.Admits e (some y) :=
  State.admits_fewer hs.but.wide hx hw hi (fun hne => absurd hws hne) (by simp [hws])

theorem State.settleFetched_tableConsistent (hs : s.Apart e .off) (hx : s.entry e = some x) (q : FetchCause) (v : Nat)
    (dirty cleared : Bool) : (s.settleFetched e x q v dirty cleared).tableConsistent := by
  unfold State.settleFetched
  dsimp only
  split
  · split
    · exact hs.off_to_port rfl (hs.admits_idle hx rfl rfl rfl)
    · exact hs.off_to_age rfl (hs.admits_idle hx rfl rfl rfl)
  · split
    · exact hs.freeEntry
    · exact hs.off_to_clean rfl (hs.admits_idle hx rfl rfl rfl)

theorem State.fetched_tableConsistent (hs : s.Apart e .off) (hseat : seatOf (s.entry e) = .port .read) (m : Nat) :
    (s.fetched e m).tableConsistent := by
  obtain ⟨x, hx, ⟨-, d, marked, q, hb⟩ | ⟨hk, -⟩⟩ := seatOf_port_iff.mp hseat
  · simp only [State.fetched, hx, hb]
    have hside := s.runWaiters_tableSide x d marked (m % (s.config x.window).width.modulus)
    exact State.settleFetched_tableConsistent (hs.congr hside) ((State.entry_of_tableSide hside e).trans hx) ..
  · cases hk

/-- An entry in WRITE has no waiters. -/
theorem State.Apart.idle {p : Seat} {v : Nat} {r : Bool} (hs : s.Apart e p) (hx : s.entry e = some x)
    (hb : x.body = .write v r) : x.waiters = [] := by
  by_contra hne
  have hmay := hs.waits x hx hne
  rw [hb] at hmay
  cases hmay

theorem State.written_tableConsistent (hs : s.Apart e .off) (hseat : seatOf (s.entry e) = .port .write) :
    (s.written e).tableConsistent := by
  obtain ⟨x, hx, ⟨hk, -⟩ | ⟨-, v, r, hb⟩⟩ := seatOf_port_iff.mp hseat
  · cases hk
  · rw [State.written_eq hx hb]
    dsimp only
    generalize hu : ({ s with carry := s.carry.filter (fun y => decide (y ≠ e)) } : State) = u
    have hau : u.Apart e .off := by rw [← hu]; exact State.Apart.congr (s := s) rfl hs
    have hxu : u.entry e = some x := by rw [← hu]; exact hx
    have hdu : u.dirty = s.dirty := by rw [← hu]
    have hidle := hs.idle hx hb
    split
    · rw [← hdu]
      exact hau.off_to_age rfl (hau.admits_idle hxu rfl rfl hidle)
    · split
      · exact hau.freeEntry
      · exact hau.off_to_clean rfl (hau.admits_idle hxu rfl rfl hidle)

theorem State.fetchFailed_tableConsistent (hs : s.Apart e .off) (hseat : seatOf (s.entry e) = .port .read) :
    (s.fetchFailed e).tableConsistent := by
  obtain ⟨x, hx, ⟨-, d, marked, q, hb⟩ | ⟨hk, -⟩⟩ := seatOf_port_iff.mp hseat
  · simp only [State.fetchFailed, hx, hb]
    refine State.strandingEffects_tableConsistent ?_ _ _ _
    have hside := s.failWaiters_tableSide x.waiters .memfault
    have hau := hs.congr hside
    refine hau.off_to_off rfl (State.admits_fewer hau.but.wide ((State.entry_of_tableSide hside e).trans hx) rfl rfl
      (fun _ => rfl) (List.length_filter_le ..))
  · cases hk

theorem State.writeFailed_tableConsistent (hs : s.Apart e .off) (hseat : seatOf (s.entry e) = .port .write) :
    (s.writeFailed e).tableConsistent := by
  obtain ⟨x, hx, ⟨hk, -⟩ | ⟨-, v, r, hb⟩⟩ := seatOf_port_iff.mp hseat
  · cases hk
  · simp only [State.writeFailed, hx, hb]
    have hidle := hs.idle hx hb
    have hset := hs.off_to_off
      (y := { x with body := .strandedWrite v, dirtySince := s.stamp x, flushAll := false, retry := false }) rfl
      (hs.admits_idle hx rfl rfl hidle)
    refine State.strandingEffects_tableConsistent ?_ _ _ _
    exact State.tableConsistent_congr rfl hset

theorem State.retrySucceeded_tableConsistent (hs : s.tableConsistent) (x : Entry) :
    (s.retrySucceeded x).tableConsistent := by
  unfold State.retrySucceeded
  split
  · exact State.faultExit_tableConsistent hs _
  · exact hs

/-! ### The arrival of a response (R113, R122) -/

/-- The tag of a table's transaction is freed: its entry stands in no collection, until the response is handled. -/
theorem State.setTag_apart {r : TagRecord} (hs : s.tableConsistent) (hg : s.tagAt g = some r) (ho : r.owner = .table e) :
    (s.setTag g none).Apart e .off ∧ seatOf ((s.setTag g none).entry e) = .port r.kind := by
  obtain ⟨hwide, hseated⟩ := State.tableConsistent_iff.mp hs
  have hown : s.holds g e r.kind := ⟨r, hg, ho, rfl⟩
  obtain ⟨hde, hce, hie, hte, hse, hwe⟩ := hseated e
  have hseat := hte g r.kind hown
  rw [hseat] at hde hce
  have hholds : ∀ f, f ≠ e → ∀ h k, (s.setTag g none).holds h f k ↔ s.holds h f k := fun f hf h k => by
    rw [State.holds_setTag_none]
    refine and_iff_right_of_imp ?_
    rintro ⟨r', hr', ho', -⟩ rfl
    rw [hg] at hr'
    cases hr'
    exact hf (Owner.table.inj (ho'.symm.trans ho))
  refine ⟨⟨⟨?_, fun f hf => ?_⟩, hde, hce, ?_, fun h k hk => ?_, hwe⟩, hseat⟩
  · obtain ⟨h1, h2, h3, h4, h5⟩ := hwide
    exact ⟨h1, h2, h3, h4, h5⟩
  · obtain ⟨h1, h2, h3, h4, h5, h6⟩ := hseated f
    have hfree : (s.setTag g none).untagged f ↔ s.untagged f := by simp only [State.untagged, hholds f hf]
    exact ⟨h1, h2, h3.trans (and_congr_right' hfree.symm), fun h k hk => h4 h k ((hholds f hf h k).mp hk),
      fun h l k m hk hl => h5 h l k m ((hholds f hf h k).mp hk) ((hholds f hf l m).mp hl), h6⟩
  · exact fun hmem => (hie.mp hmem).2 g r.kind hown
  · rw [State.holds_setTag_none] at hk
    exact hk.1 (hse g h r.kind k hown hk.2)

theorem State.tableResponse_tableConsistent {r : TagRecord} (hs : s.Apart e .off)
    (hseat : seatOf (s.entry e) = .port r.kind) (ok : Bool) (data : BitVec 512) :
    (s.tableResponse r e ok data).tableConsistent := by
  obtain ⟨x, hx, -⟩ := seatOf_port_iff.mp hseat
  unfold State.tableResponse
  split
  · have hadmit : s.Admits e (some x) := State.admits_fewer hs.but.wide hx rfl rfl (hs.waits x hx) (Nat.le_refl _)
    exact hs.place rfl (fun _ _ => rfl) rfl hseat (hx ▸ hadmit) (Moves.stays hs.but.wide.dirty hs.dirty)
      (Moves.stays hs.but.wide.clean hs.clean) (Moves.joins hs.but.wide.issue hs.issue)
  · split
    · rename_i hk
      rw [hk] at hseat
      split
      · rw [State.fetchOk_eq hx]
        exact State.retrySucceeded_tableConsistent (State.fetched_tableConsistent hs hseat _) x
      · exact State.fetchFailed_tableConsistent hs hseat
    · rename_i hk
      rw [hk] at hseat
      split
      · rw [State.writeOk_eq hx]
        exact State.retrySucceeded_tableConsistent (State.written_tableConsistent hs hseat) x
      · exact State.writeFailed_tableConsistent hs hseat

theorem State.arrive_tableConsistent (hs : s.tableConsistent) (g : Tag) (ok : Bool) (data : BitVec 512) :
    (s.arrive g ok data).tableConsistent := by
  have hfreed : ∀ r, s.tagAt g = some r → (∀ e, r.owner ≠ .table e) → (s.setTag g none).tableConsistent := by
    refine fun r hr ho => State.tableConsistent_congr (State.setTag_tableSide ?_ ?_) hs
    · rintro r' hr'
      cases hr.symm.trans hr'
      exact ho
    · rintro r' ⟨⟩
  obtain ⟨-, h⟩ | ⟨r, hg, ⟨id, link, ho, h⟩ | ⟨e, ho, h⟩ | ⟨k, ho, h⟩⟩ := s.arrive_cases g ok data <;> rw [h]
  · exact hs
  · exact State.tableConsistent_congr (State.passCompleted_tableSide ..) (hfreed r hg (by simp [ho]))
  · obtain ⟨hapart, hseat⟩ := State.setTag_apart hs hg ho
    exact State.tableResponse_tableConsistent hapart hseat ok data
  · have hf := hfreed r hg (by simp [ho])
    unfold State.snapResponse
    repeat' split
    · exact hf
    · exact State.destinationWritten_tableConsistent hf k
    · exact State.destinationFailed_tableConsistent hf k

end Sys2Proof.Machine
end

section
/-!
SUPPORT. The end of a happening and every command keep the table consistent.
-/

namespace Sys2Proof.Machine

variable {s t a b : State}

/-! ### The order of flushes (R96) -/

/-- Refilling the picked places of a queue with as many entries as it picks leaves the rest, and puts the new in. -/
theorem refill_perm (which : EntryNo → Bool) (q sorted : List EntryNo) (h : sorted.length = (q.filter which).length) :
    (refill which q sorted).Perm (q.filter (fun e => !which e) ++ sorted) := by
  induction q generalizing sorted with
  | nil =>
    rw [List.filter_nil, List.length_nil, List.length_eq_zero_iff] at h
    rw [h]
    exact List.Perm.refl _
  | cons x xs ih =>
    cases hx : which x with
    | false =>
      have hlen : sorted.length = (xs.filter which).length := by simpa [hx] using h
      have hrefill : refill which (x :: xs) sorted = x :: refill which xs sorted := by
        cases sorted <;> simp [refill, hx]
      rw [hrefill, List.filter_cons_of_pos (by simp [hx])]
      exact (ih sorted hlen).cons x
    | true =>
      rw [List.filter_cons_of_neg (by simp [hx])]
      cases sorted with
      | nil => simp [hx] at h
      | cons y ys =>
        have hlen : ys.length = (xs.filter which).length := by simpa [hx] using h
        have hrefill : refill which (x :: xs) (y :: ys) = y :: refill which xs ys := by simp [refill, hx]
        rw [hrefill]
        exact ((ih ys hlen).cons y).trans List.perm_middle.symm

/-- The issue queue is put in order, and holds what it held. -/
theorem orderFlushes_perm (ha : a.dirty.Nodup) (hb : b.issue.Nodup) : (orderFlushes a b).issue.Perm b.issue := by
  have hsorted : (a.dirty.filter (fun e => flushedNow a b e && decide (e ∈ b.issue))).Perm
      (b.issue.filter (flushedNow a b)) := by
    rw [List.perm_ext_iff_of_nodup (ha.filter _) (hb.filter _)]
    intro e
    have hdirty : flushedNow a b e = true → e ∈ a.dirty := fun he => by
      simp only [flushedNow, Bool.and_eq_true, decide_eq_true_eq] at he
      exact he.1.1
    simp only [List.mem_filter, Bool.and_eq_true, decide_eq_true_eq]
    exact ⟨fun ⟨_, hf, hi⟩ => ⟨hi, hf⟩, fun ⟨hi, hf⟩ => ⟨hdirty hf, hf, hi⟩⟩
  have hparts := (hsorted.append_left (b.issue.filter (fun e => !flushedNow a b e))).trans List.perm_append_comm
  exact ((refill_perm _ _ _ hsorted.length_eq).trans hparts).trans (List.filter_append_perm _ _)

theorem orderFlushes_tableConsistent (ha : a.tableConsistent) (hb : b.tableConsistent) :
    (orderFlushes a b).tableConsistent := by
  obtain ⟨⟨hd, hc, hi, hone, hpool⟩, hseated⟩ := State.tableConsistent_iff.mp hb
  have hperm := orderFlushes_perm (State.tableConsistent_iff.mp ha).1.dirty hi
  refine State.tableConsistent_iff.mpr ⟨⟨hd, hc, hperm.nodup_iff.mpr hi, hone, hpool⟩, fun e => ?_⟩
  obtain ⟨hde, hce, hie, hte, hse, hwe⟩ := hseated e
  exact ⟨hde, hce, hperm.mem_iff.trans hie, hte, hse, hwe⟩

/-! ### The end of a happening -/

theorem retries_tableConsistent (hb : b.tableConsistent) : (retries a b).tableConsistent := by
  have hcount : ({ b with choice := b.choice + 1 } : State).tableConsistent := State.tableConsistent_congr rfl hb
  unfold retries
  dsimp only
  split
  · split
    · split
      · exact State.retryHold_tableConsistent (State.walkStep_tableConsistent hcount)
      · exact State.walkStep_tableConsistent (State.retryHold_tableConsistent hcount)
    · exact State.retryHold_tableConsistent hb
  · split
    · exact State.walkStep_tableConsistent hb
    · exact hb

theorem rounds_tableConsistent (n : Nat) (hb : b.tableConsistent) : (rounds n a b).tableConsistent := by
  induction n generalizing a b with
  | zero => exact hb
  | succ n ih =>
    have hacted : (retries a b).pressureAct.tableConsistent :=
      State.pressureAct_tableConsistent (retries_tableConsistent hb)
    have haged := State.ageCheck_tableConsistent hacted
    unfold rounds
    dsimp only
    split <;> split
    · exact ih haged
    · exact haged
    · exact ih hacted
    · exact hacted

/-- A part without entries and tags has a consistent table. -/
theorem State.softClear_tableConsistent (h : s.tagsFree = true) : s.softClear.tableConsistent := by
  have htags : s.softClear.tags = s.tags := congrArg Prod.fst (State.downstream_of_outer s.softClear_outer)
  refine State.tableConsistent_of_empty rfl (fun g => ?_) rfl rfl rfl
  rw [State.tagAt, htags]
  by_contra hg
  rw [State.tagsFree_eq_false.mpr ⟨g, hg⟩] at h
  cases h

theorem State.clearCheck_tableConsistent (hs : s.tableConsistent) : s.clearCheck.tableConsistent := by
  unfold State.clearCheck
  split
  · rename_i h
    exact State.softClear_tableConsistent h.2
  · exact hs

theorem settle_tableConsistent (ha : a.tableConsistent) (hb : b.tableConsistent) : (settle a b).tableConsistent := by
  have hrounds : (rounds roundLimit a b).drainChecks.flushAllCheck.tableConsistent :=
    State.tableConsistent_congr (s := rounds roundLimit a b) (by simp) (rounds_tableConsistent roundLimit hb)
  have hcleared := State.clearCheck_tableConsistent (orderFlushes_tableConsistent ha hrounds)
  exact State.tableConsistent_congr (by simp [settle]) hcleared

theorem State.nextHappening_tableConsistent (hs : s.tableConsistent) (h : s.nextHappening = some t) :
    t.tableConsistent := by
  have hcount : ({ s with choice := s.choice + 1 } : State).tableConsistent := State.tableConsistent_congr rfl hs
  rcases State.nextHappening_cases h with ⟨ht, -⟩ | ⟨-, -, rfl⟩ | ⟨-, ht | rfl⟩
  · exact State.takeHead_tableConsistent hs ht
  · exact State.grant_tableConsistent hs
  · exact State.takeHead_tableConsistent hcount ht
  · exact State.grant_tableConsistent hcount

theorem finish_tableConsistent (ha : a.tableConsistent) (hb : b.tableConsistent) : (finish a b).tableConsistent :=
  follow_induct (fun _ _ hs ht => settle_tableConsistent hs (State.nextHappening_tableConsistent hs ht)) _ _
    (settle_tableConsistent ha hb)

/-! ### Commands -/

theorem State.endFrame_tableConsistent {run : State → Reply} (hs : s.tableConsistent)
    (hrun : ∀ u : State, u.tableConsistent → (run u).st.tableConsistent) (code : Byte) :
    (s.endFrame code run).tableConsistent := by
  cases h : s.takesCommand with
  | true =>
    rw [State.endFrame_taken h]
    exact State.tableConsistent_congr rfl (hrun s.counted (State.tableConsistent_congr rfl hs))
  | false =>
    rw [State.endFrame_dropped h]
    exact State.tableConsistent_congr rfl hs

theorem withWindow_tableConsistent {run : WinNo → Reply} (hs : s.tableConsistent)
    (hrun : ∀ w, (run w).st.tableConsistent) (w : BitVec 8) : (withWindow w s run).st.tableConsistent := by
  unfold withWindow
  split
  · exact hrun _
  · exact hs

theorem State.windowDrain_tableConsistent (hs : s.tableConsistent) (w : BitVec 8) :
    (s.windowDrain w).st.tableConsistent := by
  refine withWindow_tableConsistent hs (fun w => ?_) w
  split
  · exact hs
  · split
    · exact hs
    · exact State.drainStart_tableConsistent (State.tableConsistent_congr (s.setWinState_tableSide w _) hs) w

theorem State.snapshotStart_tableConsistent (hs : s.tableConsistent) (a : StartArgs) :
    (s.snapshotStart a).st.tableConsistent := by
  refine withWindow_tableConsistent hs (fun w => ?_) a.window
  dsimp only
  repeat' split
  case isFalse.isFalse.isFalse.isFalse =>
    refine State.walkStep_tableConsistent ?_
    exact State.tableConsistent_congr rfl hs
  all_goals exact hs

theorem State.snapshotAbort_tableConsistent (hs : s.tableConsistent) : s.snapshotAbort.st.tableConsistent := by
  unfold State.snapshotAbort
  split
  · exact State.tableConsistent_congr (State.endCheck_tableSide _) (State.leaveRunning_tableConsistent hs .aborted)
  all_goals exact hs

theorem State.retryWindow_tableConsistent (hs : s.tableConsistent) (w : BitVec 8) :
    (s.retryWindow w).st.tableConsistent := by
  refine withWindow_tableConsistent hs (fun w => ?_) w
  split
  · exact State.reenterAll_tableConsistent hs w
  · exact hs

theorem State.discardWindow_tableConsistent (hs : s.tableConsistent) (w : BitVec 8) :
    (s.discardWindow w).st.tableConsistent := by
  refine withWindow_tableConsistent hs (fun w => ?_) w
  split
  · exact hs
  · split
    · exact hs
    · exact State.discardAll_tableConsistent hs w

theorem State.flushAllCommand_tableConsistent (hs : s.tableConsistent) : s.flushAllCommand.st.tableConsistent := by
  unfold State.flushAllCommand
  split
  · exact hs
  · exact State.flushAllStart_tableConsistent hs

theorem State.hardReset_tableConsistent (s : State) : s.hardReset.tableConsistent :=
  State.tableConsistent_of_empty rfl (fun _ => Vector.getElem_replicate _) rfl rfl rfl

/-- Every command keeps the table consistent. -/
theorem exec_tableConsistent (c : Instr) (hs : s.tableConsistent) : ∃ t, exec c s = .next t ∧ t.tableConsistent := by
  have hend : ∀ u : State, u.tableConsistent → (finish s u).tableConsistent := fun u hu => finish_tableConsistent hs hu
  have hside : ∀ u : State, u.tableSide = s.tableSide → (finish s u).tableConsistent :=
    fun u hu => hend u (State.tableConsistent_congr hu hs)
  have harrive : ∀ g ok data, (finish s (s.arrive g ok data)).tableConsistent :=
    fun g ok data => hend _ (State.arrive_tableConsistent hs g ok data)
  have hframe : ∀ code run, (∀ u : State, u.tableConsistent → (run u).st.tableConsistent) →
      (finish s (s.endFrame code run)).tableConsistent :=
    fun code run hrun => hend _ (State.endFrame_tableConsistent hs hrun code)
  have hlone : ∀ code run, (∀ u : State, (run u).st.tableSide = u.tableSide) → (s.endFrame code run).tableConsistent :=
    fun code run hrun => State.endFrame_tableConsistent hs (fun u hu => State.tableConsistent_congr (hrun u) hu) code
  cases c <;> refine ⟨_, rfl, ?_⟩
  case hardReset => exact s.hardReset_tableConsistent
  case requestTaken r => exact hside { s with channel := s.channel ++ [r] } rfl
  case holdSlotRetry => exact hend _ (State.retryHold_tableConsistent hs)
  case responseDelivery => exact hside _ s.deliver_tableSide
  case downstreamGrant => exact hend _ (State.grant_tableConsistent hs)
  case downstreamRequestAccepted => exact hside { s with downReq := none } rfl
  case passThroughCompletion | fetchReturn | writeBackReturn | fetchError | writeBackError | destinationWriteReturn
      | destinationWriteError | tableResponseAbsorbed | snapResponseAbsorbed | orphanResponse =>
    exact harrive _ _ _
  case windowBecomesActive w => exact hside _ (s.armingCheck_tableSide w)
  case tickAdvance =>
    split
    · exact hs
    · exact hend _ (State.tickOnce_tableConsistent hs)
  case frameStart => exact State.tableConsistent_congr s.startFrame_tableSide hs
  case frameWithoutCommand | nop => exact State.tableConsistent_congr rfl hs
  case frameBusy => exact State.tableConsistent_congr s.busyFrame_tableSide hs
  case unassignedCommand => exact hlone _ _ fun _ => rfl
  case windowLoad a => exact hend _ (hlone _ _ fun u => u.windowLoad_tableSide a)
  case windowArm w => exact hend _ (hlone _ _ fun u => u.windowArm_tableSide w)
  case windowDrain w => exact hframe _ _ fun _ hu => State.windowDrain_tableConsistent hu w
  case windowRelease w => exact hend _ (hlone _ _ fun u => u.windowRelease_tableSide w)
  case windowStatus w => exact hlone _ _ fun u => u.windowStatus_tableSide w
  case windowQuiesce w => exact hside _ (s.drainCheck_tableSide w)
  case snapshotStart a => exact hframe _ _ fun _ hu => State.snapshotStart_tableConsistent hu a
  case snapshotAbort => exact hframe _ _ fun _ hu => State.snapshotAbort_tableConsistent hu
  case snapshotStatus | faultRead | alertPop | paramGet | mgmtStatus => exact hlone _ _ fun _ => rfl
  case snapshotComplete => exact hside _ s.completionCheck_tableSide
  case snapshotEnd => exact hside _ s.endCheck_tableSide
  case walkRetry => exact hend _ (State.retryWalk_tableConsistent hs)
  case retry w => exact hframe _ _ fun _ hu => State.retryWindow_tableConsistent hu w
  case discard w => exact hframe _ _ fun _ hu => State.discardWindow_tableConsistent hu w
  case flushAll => exact hframe _ _ fun _ hu => State.flushAllCommand_tableConsistent hu
  case flushAllComplete => exact hside _ s.flushAllCheck_tableSide
  case paramSetLowMark v => exact hend _ (hlone _ _ fun u => u.setLowMark_tableSide v)
  case paramSetFlushAge v => exact hlone _ _ fun u => u.setFlushAge_tableSide v
  case paramSetPrescaler v => exact hlone _ _ fun u => u.setPrescaler_tableSide v
  case paramSetEnables v => exact hlone _ _ fun u => u.setEnables_tableSide v
  case entryRead r => exact hlone _ _ fun u => u.entryReadReply_tableSide r
  case softReset => exact hside _ s.softResetFrame_tableSide
  case softResetClearing => exact hend _ (State.clearCheck_tableConsistent hs)
  case softResetEnd => exact hside _ s.finishCheck_tableSide
  case rstNReleased => exact hside { s with rstAsserted := false } rfl

theorem State.clockCycle_tableConsistent (hs : s.tableConsistent) : s.clockCycle.tableConsistent := by
  unfold State.clockCycle
  split
  · exact hs
  · split
    · exact State.tableConsistent_congr rfl hs
    · exact finish_tableConsistent hs (State.tickOnce_tableConsistent hs)

theorem State.accumHasNoWaiters_of_tableConsistent (hs : s.tableConsistent) : s.accumHasNoWaiters := by
  intro e x d m hx hb
  by_contra hne
  have hmay := ((State.tableConsistent_iff.mp hs).2 e).waits x hx hne
  rw [hb] at hmay
  cases hmay

end Sys2Proof.Machine

open Sys2Proof Sys2Proof.Machine

/-- Settles O8. A consistent table has every entry in its seat (`State.tableConsistent_iff`); each operation moves one entry
at a time from seat to seat (`State.Apart.place`, `State.tableConsistent_rewrite`, `State.tableConsistent_granted`), or none,
and so does every command (`exec_tableConsistent`). -/
theorem tableInvariantsKept : Obligations.TableInvariantsKept := by
  refine ⟨State.tableConsistent_of_empty rfl (fun _ => Vector.getElem_replicate _) rfl rfl rfl,
    fun s => State.accumHasNoWaiters_of_tableConsistent, fun s t hs hstep => ?_⟩
  cases hp : s.pending with
  | nil =>
    rw [step_idle hp] at hstep
    cases hstep
    exact State.clockCycle_tableConsistent hs
  | cons c rest =>
    have hexec : exec c { s with pending := rest } = .next t := by
      unfold step at hstep
      rwa [hp] at hstep
    obtain ⟨u, hu, hk⟩ := exec_tableConsistent (s := { s with pending := rest }) c (State.tableConsistent_congr rfl hs)
    rw [hexec] at hu
    cases hu
    exact hk

end

section
/-!
SUPPORT. The lowest-numbered place of a kind, and responses outside their owners' life (R64, R90, R113, R115, R127, R147).
-/

namespace Sys2Proof.Machine

variable {s : State} {g : Tag} {r : TagRecord}

/-- A search in ascending order finds the least place that it looks for. -/
theorem find?_finRange_iff {n : Nat} {p : Fin n → Bool} {k : Fin n} :
    (List.finRange n).find? p = some k ↔ p k = true ∧ ∀ j < k, p j = false := by
  rw [← Fin.find?_eq_find?_finRange, Fin.find?_eq_some_iff]

theorem State.lowestFree_iff {e : EntryNo} : s.lowestFree = some e ↔ s.entry e = none ∧ ∀ f < e, s.entry f ≠ none := by
  simp only [State.lowestFree, find?_finRange_iff, Option.isNone_iff_eq_none, Option.isNone_eq_false_iff,
    Option.isSome_iff_ne_none]

theorem State.lowestTag_iff : s.lowestTag = some g ↔ s.tagAt g = none ∧ ∀ h < g, s.tagAt h ≠ none := by
  simp only [State.lowestTag, find?_finRange_iff, Option.isNone_iff_eq_none, Option.isNone_eq_false_iff,
    Option.isSome_iff_ne_none]

theorem State.arrive_free (hg : s.tagAt g = none) (ok : Bool) (data : BitVec 512) : s.arrive g ok data = s := by
  simp only [State.arrive, hg]

/-- In the soft reset interval a response of the table is absorbed, and its entry waits for its tag again (R90). -/
theorem State.arrive_table_soft {e : EntryNo} (hsoft : s.softInterval = true) (hg : s.tagAt g = some r)
    (ho : r.owner = .table e) (ok : Bool) (data : BitVec 512) :
    s.arrive g ok data = { s.setTag g none with issue := s.issue ++ [e] } := by
  simp only [State.arrive, hg, ho]
  exact if_pos hsoft

/-- In the soft reset interval a response of the snapshot engine frees its tag alone (R147). -/
theorem State.arrive_snap_soft {k : SlotNo} (hsoft : s.softInterval = true) (hg : s.tagAt g = some r)
    (ho : r.owner = .snap k) (ok : Bool) (data : BitVec 512) : s.arrive g ok data = s.setTag g none := by
  simp only [State.arrive, hg, ho]
  exact if_pos hsoft

end Sys2Proof.Machine

open Sys2Proof Sys2Proof.Machine

/-- Settles O23: both searches run in ascending order. -/
theorem lowestNumberedTaken : Obligations.LowestNumberedTaken :=
  ⟨fun _ _ => State.lowestFree_iff, fun _ _ => State.lowestTag_iff⟩

/-- Settles O33, by the owner of the response's tag. -/
theorem responsesAbsorbed : Obligations.ResponsesAbsorbed := by
  refine fun s g ok data => ⟨fun r e hsoft hg ho => ?_, fun r k hsoft hg ho => ?_, fun hg => ?_⟩
  · exact next_finish_congr (State.arrive_table_soft hsoft hg ho ok data) s
  · exact next_finish_congr (State.arrive_snap_soft hsoft hg ho ok 0) s
  · exact next_finish_congr (State.arrive_free hg ok data) s

end

section
/-!
SUPPORT. Allocations and operations that gather or wait, as equations of the state (R64, R65, R74 to R78, R81, R82).
-/

namespace Sys2Proof.Machine

variable {s : State} {e : EntryNo} {x : Entry} {rest : List EntryNo} {w : WinNo} {i d link : Nat} {m : Bool}
  {q : FetchCause} {o : Operation} {id : UpId} {k : SlotNo} {cap : Option SlotNo} {ws : List Waiter}

/-! ### Allocation (R64, R65) -/

theorem State.setEntry_self (h : s.entry e = none) : s.setEntry e none = s := by
  have hset : s.entries.set e.val none e.isLt = s.entries := by
    rw [← h]
    exact Vector.set_getElem_self e.isLt
  simp only [State.setEntry, hset]

theorem State.obtain_of_allocates (h : s.allocates e rest) :
    s.obtain = some (e, { s.setEntry e none with clean := rest }) := by
  rcases h with ⟨hfree, hbefore, rfl⟩ | ⟨hnone, hclean⟩
  · simp only [State.obtain, State.lowestFree_iff.mpr ⟨hfree, hbefore⟩, State.setEntry_self hfree]
  · simp only [State.obtain, State.lowestFree_eq_none.mpr hnone, hclean]

/-- The entry of a counter whose first operation is an ADD (R74). -/
def Entry.gathering (w : WinNo) (i amount : Nat) (now : Ticks) : Entry :=
  { window := w, index := i, body := .accum amount false, waiters := [], dirtySince := some now
    lastUse := now, flushAll := false, captureRequested := false, retry := false }

/-- The entry of a counter whose value is fetched for the waiters `ws` (R77, R81, R82). -/
def Entry.awaiting (w : WinNo) (i : Nat) (ws : List Waiter) (since : Option Ticks) (marked : Bool) (now : Ticks) :
    Entry :=
  { window := w, index := i, body := .fetch 0 false .resolve, waiters := ws, dirtySince := since
    lastUse := now, flushAll := false, captureRequested := marked, retry := false }

theorem State.allocAccum_obtained (s : State) (e : EntryNo) (rest : List EntryNo) (w : WinNo) (i amount : Nat) :
    State.allocAccum { s.setEntry e none with clean := rest } e w i amount =
      { s.setEntry e (some (.gathering w i amount s.tick)) with clean := rest, dirty := s.dirty ++ [e] } := by
  simp only [State.allocAccum, State.setEntry, Vector.set_set, Entry.gathering]

theorem State.allocFetch_obtained (s : State) (e : EntryNo) (rest : List EntryNo) (w : WinNo) (i : Nat)
    (ws : List Waiter) (update marked : Bool) :
    State.allocFetch { s.setEntry e none with clean := rest } e w i ws update marked =
      { s.setEntry e (some (.awaiting w i ws (if update = true then some s.tick else none) marked s.tick)) with
        clean := rest, issue := s.issue ++ [e] } := by
  simp only [State.allocFetch, State.setEntry, Vector.set_set, Entry.awaiting]

/-! ### Acceptance (R66, R73, R136) -/

theorem State.accept_plain (h : s.earlyCapture w i o.kind = false) :
    s.accept w i o id link = s.carryOut w i o id link none := by
  simp only [State.accept, h, Bool.false_eq_true, if_false]

/-- An operation waits for the counter's value where it is no ADD, or where a capture stands ahead of it. -/
theorem blind_eq_false (h : o.kind ≠ .add ∨ cap.isSome = true) : (o.kind.isAdd && cap.isNone) = false := by
  rw [Bool.and_eq_false_iff, ← Bool.not_eq_true, OpKind.isAdd_iff]
  exact h.imp_right fun hc => by rw [← Option.not_isSome, hc]; rfl

theorem OpKind.ite_isUpdate {α : Type} (k : OpKind) (a b : α) :
    (if k.isUpdate = true then a else b) = if k = .read then b else a := by
  cases k <;> rfl

theorem State.carryOut_first_add (hl : s.lookup w i = none) (ha : s.allocates e rest) (hk : o.kind = .add) :
    s.carryOut w i o id link none =
      { s.setEntry e (some (.gathering w i o.amount s.tick)) with clean := rest, dirty := s.dirty ++ [e] } := by
  simp only [State.carryOut, hl, State.obtain_of_allocates ha, OpKind.isAdd_iff.mpr hk, Option.isNone_none,
    Bool.and_self, if_true]
  exact s.allocAccum_obtained e rest w i o.amount

theorem State.carryOut_first_waiter (hl : s.lookup w i = none) (ha : s.allocates e rest)
    (hk : o.kind ≠ .add ∨ cap.isSome = true) : s.carryOut w i o id link cap =
      { s.setEntry e (some (.awaiting w i (opWaiters cap o id link) (if o.kind = .read then none else some s.tick)
          cap.isSome s.tick)) with
        clean := rest, issue := s.issue ++ [e] } := by
  rw [← OpKind.ite_isUpdate]
  simp only [State.carryOut, hl, State.obtain_of_allocates ha, blind_eq_false hk, Bool.false_eq_true, if_false]
  exact s.allocFetch_obtained e rest w i ..

/-! ### Work that gathers (R75, R76) -/

/-- The entry with a delta gathered at tick `now`. -/
def Entry.folded (x : Entry) (b : Body) (now : Ticks) : Entry :=
  { x with body := b, lastUse := now, dirtySince := some (x.dirtySince.getD now) }

theorem State.foldAdd_accum (hx : s.entry e = some x) (hb : x.body = .accum d m) (a : Nat) :
    s.foldAdd e a = s.setEntry e (some (x.folded (.accum
      (policySum (s.config x.window).policy (s.config x.window).width d a)
      (foldMark (s.config x.window).width d a m)) s.tick)) := by
  simp only [State.foldAdd, State.mapEntry, hx, hb]
  rfl

theorem State.foldAdd_fetch (hx : s.entry e = some x) (hb : x.body = .fetch d m q) (a : Nat) :
    s.foldAdd e a = s.setEntry e (some (x.folded (.fetch
      (policySum (s.config x.window).policy (s.config x.window).width d a)
      (foldMark (s.config x.window).width d a m) q) s.tick)) := by
  simp only [State.foldAdd, State.mapEntry, hx, hb]
  rfl

theorem State.carryOut_folds_accum (hl : s.lookup w i = some e) (hx : s.entry e = some x) (hk : o.kind = .add)
    (hb : x.body = .accum d m) : s.carryOut w i o id link none = s.foldAdd e o.amount := by
  simp only [State.carryOut, hl, hx, hb, OpKind.isAdd_iff.mpr hk, Option.isNone_none, Bool.and_self, if_true]

theorem State.carryOut_folds_fetch (hl : s.lookup w i = some e) (hx : s.entry e = some x) (hk : o.kind = .add)
    (hb : x.body = .fetch d m q) (hw : x.waiters = []) : s.carryOut w i o id link none = s.foldAdd e o.amount := by
  simp only [State.carryOut, hl, hx, hb, hw, OpKind.isAdd_iff.mpr hk, Option.isNone_none, decide_true, Bool.and_self,
    if_true]

/-! ### Work that waits (R77, R78, R81, R82) -/

/-- The entry with the waiters `ws` queued at tick `now`, for an update where `update` is set, with a capture among them
where `marked` is. -/
def Entry.queued (x : Entry) (ws : List Waiter) (update marked : Bool) (now : Ticks) : Entry :=
  { x with
    waiters := x.waiters ++ ws
    lastUse := now
    dirtySince := if update = true then some (x.dirtySince.getD now) else x.dirtySince
    captureRequested := x.captureRequested || marked }

theorem State.appendWaiters_accum (hx : s.entry e = some x) (hb : x.body = .accum d m) (update marked : Bool) :
    s.appendWaiters e ws update marked =
      { s.setEntry e (some { x.queued ws update marked s.tick with body := .fetch d m .resolve }) with
        dirty := s.dirty.filter (fun f => decide (f ≠ e)), issue := s.issue ++ [e] } := by
  simp only [State.appendWaiters, hx, hb]
  rfl

theorem State.appendWaiters_fetch (hx : s.entry e = some x) (hb : x.body = .fetch d m q) (update marked : Bool) :
    s.appendWaiters e ws update marked = s.setEntry e (some (x.queued ws update marked s.tick)) := by
  simp only [State.appendWaiters, hx, hb]
  rw [← hb]
  rfl

theorem State.carryOut_queues_accum (hl : s.lookup w i = some e) (hx : s.entry e = some x)
    (hk : o.kind ≠ .add ∨ cap.isSome = true) (hb : x.body = .accum d m) :
    s.carryOut w i o id link cap = s.appendWaiters e (opWaiters cap o id link) o.kind.isUpdate cap.isSome := by
  simp only [State.carryOut, hl, hx, hb, blind_eq_false hk, Bool.false_eq_true, if_false]

theorem State.carryOut_queues_fetch (hl : s.lookup w i = some e) (hx : s.entry e = some x)
    (hk : (o.kind ≠ .add ∨ cap.isSome = true) ∨ x.waiters ≠ []) (hb : x.body = .fetch d m q) :
    s.carryOut w i o id link cap = s.appendWaiters e (opWaiters cap o id link) o.kind.isUpdate cap.isSome := by
  have hblind : (o.kind.isAdd && cap.isNone && decide (x.waiters = [])) = false := by
    rw [Bool.and_eq_false_iff, decide_eq_false_iff_not]
    exact hk.imp_left blind_eq_false
  simp only [State.carryOut, hl, hx, hb, hblind, Bool.false_eq_true, if_false]

end Sys2Proof.Machine

open Sys2Proof Sys2Proof.Machine

/-- Settles O24, by what an allocation in the lowest-numbered FREE entry leaves of a blind ADD
(`State.carryOut_first_add`) and of an operation that needs the value (`State.carryOut_first_waiter`). -/
theorem firstOperationAllocates : Obligations.FirstOperationAllocates := by
  refine ⟨fun s w i o id link e hk hl hcap hfree hbefore => ?_, fun s w i o id link e hk hl hcap hfree hbefore => ?_⟩
  · rw [State.accept_plain (hk ▸ hcap), State.carryOut_first_add hl (.inl ⟨hfree, hbefore, rfl⟩) hk]
    exact ⟨State.entry_setEntry_same .., fun f hf => State.entry_setEntry_ne s hf.symm _, rfl, rfl, rfl, rfl, rfl, rfl⟩
  · rw [State.accept_plain hcap, State.carryOut_first_waiter hl (.inl ⟨hfree, hbefore, rfl⟩) (.inl hk)]
    exact ⟨State.entry_setEntry_same .., fun f hf => State.entry_setEntry_ne s hf.symm _, rfl, rfl, rfl, rfl⟩

end

section
/-!
SUPPORT. What an operation or a capture taken at once changes (R55, R71, R79, R80, R83), and what freeing an entry changes
(R65).
-/

namespace Sys2Proof.Machine

variable {s t u : State} {e : EntryNo} {x : Entry} {w : WinNo} {i v v' link : Nat} {o : Operation} {id : UpId}

/-! ### The entry and the two ordered lists -/

/-- From `s` to `t`, entry `e` has been used: of the lists, the clean list alone changes, where the entry stands in it
(R71). -/
def State.Uses (s t : State) (e : EntryNo) (x : Entry) (v : Nat) : Prop :=
  t.entry e = some { x with lastUse := s.tick } ∧ t.dirty = s.dirty ∧
    (x.body = .held v false → t.clean = s.clean.filter (fun f => decide (f ≠ e)) ++ [e]) ∧
    (x.body ≠ .held v false → t.clean = s.clean)

/-- From `s` to `t`, the live value of entry `e` has been updated to `v'` (R70, R79, R80). -/
def State.Updates (s t : State) (e : EntryNo) (x : Entry) (v v' : Nat) : Prop :=
  let dirtied : Entry := { x with lastUse := s.tick, dirtySince := some (x.dirtySince.getD s.tick) }
  (x.body = .held v true → t.entry e = some { dirtied with body := .held v' true } ∧ t.dirty = s.dirty ∧
    t.clean = s.clean) ∧
  (x.body = .held v false → t.entry e = some { dirtied with body := .held v' true } ∧ t.dirty = s.dirty ++ [e] ∧
    t.clean = s.clean.filter (fun f => decide (f ≠ e))) ∧
  ∀ r, x.body = .write v r → t.entry e = some { dirtied with body := .write v' (r || (s.tagOf e).isSome) } ∧
    t.dirty = s.dirty ∧ t.clean = s.clean

/-- The parts of the state that an update and a use leave alone. -/
def State.beside (s : State) :=
  (s.lists, s.latches, s.alerts, s.alertSeq, s.snap, s.issue)

@[simp] theorem State.markUpdate_beside (s : State) (e : EntryNo) : (s.markUpdate e).beside = s.beside := by
  unfold State.markUpdate
  repeat' split
  all_goals rfl

@[simp] theorem State.useClean_beside (s : State) (e : EntryNo) : (s.useClean e).beside = s.beside := by
  unfold State.useClean
  repeat' split
  all_goals rfl

@[simp] theorem State.setEntry_beside (s : State) (e : EntryNo) (y : Option Entry) :
    (s.setEntry e y).beside = s.beside := rfl

theorem State.list_of_beside (h : t.beside = s.beside) (j : UpId) : t.list j = s.list j := by
  have hl : t.lists = s.lists := congrArg (fun q => q.1) h
  rw [State.list, hl]
  rfl

theorem State.latch_of_beside (h : t.beside = s.beside) (j : UpId) : t.latch j = s.latch j := by
  have hl : t.latches = s.latches := congrArg (fun q => q.2.1) h
  rw [State.latch, hl]
  rfl

theorem State.tick_of_fixed (h : t.fixed = s.fixed) : t.tick = s.tick := by
  simp only [State.fixed, Prod.mk.injEq] at h
  tauto

theorem State.tagOf_of_fixed (h : t.fixed = s.fixed) (e : EntryNo) : t.tagOf e = s.tagOf e := by
  have htags : t.tags = s.tags := by
    simp only [State.fixed, Prod.mk.injEq] at h
    tauto
  simp only [State.tagOf, State.tagAt, htags]

/-- A use, made where the table stands as in `s`. -/
theorem State.uses_of_useClean (ht : u.tableSide = s.tableSide) (hv : x.body.liveValue = some v) :
    s.Uses ((u.setEntry e (some { x with lastUse := s.tick })).useClean e) e x v := by
  simp only [State.tableSide, Prod.mk.injEq] at ht
  obtain ⟨-, hdirty, hclean, -, -⟩ := ht
  by_cases hb : x.body = .held v false
  · rw [State.useClean_clean (y := { x with lastUse := s.tick }) hb]
    refine ⟨State.entry_setEntry_same .., hdirty, fun _ => ?_, fun h => absurd hb h⟩
    rw [← hclean]
    rfl
  · have hother : ∀ a, x.body ≠ .held a false := fun a ha => by
      rw [ha] at hv hb
      cases hv
      exact hb rfl
    rw [State.useClean_other (y := { x with lastUse := s.tick }) hother]
    exact ⟨State.entry_setEntry_same .., hdirty, fun h => absurd h hb, fun _ => hclean⟩

/-- An update, made where the table stands as in `s`. -/
theorem State.updates_of_markUpdate (hf : u.fixed = s.fixed) (ht : u.tableSide = s.tableSide) :
    s.Updates ((u.setEntry e (some { x with body := x.body.withValue v', lastUse := s.tick })).markUpdate e) e x v v' := by
  have htick := State.tick_of_fixed hf
  have htag := State.tagOf_of_fixed hf e
  simp only [State.tableSide, Prod.mk.injEq] at ht
  obtain ⟨-, hdirty, hclean, -, -⟩ := ht
  refine ⟨fun hb => ?_, fun hb => ?_, fun r hb => ?_⟩ <;> rw [hb, Body.withValue]
  · rw [State.markUpdate_dirty rfl, htick]
    exact ⟨State.entry_setEntry_same .., hdirty, hclean⟩
  · rw [State.markUpdate_clean rfl, htick, hdirty, hclean]
    exact ⟨State.entry_setEntry_same .., rfl, rfl⟩
  · rw [State.markUpdate_write rfl, htick, htag]
    exact ⟨State.entry_setEntry_same .., hdirty, hclean⟩

/-! ### Operations (R79, R80) -/

/-- An operation applied at once to the value `v` raises its outcomes, and answers a READ or TAKE. -/
def State.reported (s : State) (w : WinNo) (i : Nat) (o : Operation) (id : UpId) (link v : Nat) : State :=
  let raised := s.raise w i (applyOutcomes (s.config w) o v)
  if o.kind.isPosted = true then raised else raised.reportValue id link v

theorem State.applyNow_read (hx : s.entry e = some x) (hv : x.body.liveValue = some v) (hk : o.kind = .read) :
    s.applyNow e o id link =
      ((s.reported x.window x.index o id link v).setEntry e (some { x with lastUse := s.tick })).useClean e := by
  have hup : o.kind.isUpdate = false := by rw [hk]; rfl
  simp only [State.applyNow, hx, hv, hup, applyValue_read hk, Body.withValue_of_liveValue hv, Bool.false_eq_true, if_false]
  rfl

theorem State.applyNow_update (hx : s.entry e = some x) (hv : x.body.liveValue = some v) (hk : o.kind ≠ .read) :
    s.applyNow e o id link =
      ((s.reported x.window x.index o id link v).setEntry e (some { x with
        body := x.body.withValue (applyValue (s.config x.window) o v), lastUse := s.tick })).markUpdate e := by
  simp only [State.applyNow, hx, hv, OpKind.isUpdate_iff.mpr hk, if_true]
  rfl

/-- What is reported touches neither the table nor the fields that no operation writes. -/
theorem State.reported_aside (s : State) (w : WinNo) (i : Nat) (o : Operation) (id : UpId) (link v : Nat) :
    (s.reported w i o id link v).fixed = s.fixed ∧ (s.reported w i o id link v).tableSide = s.tableSide := by
  unfold State.reported
  dsimp only
  split <;> simp

theorem State.alertQueue_reported (s : State) (w : WinNo) (i : Nat) (o : Operation) (id : UpId) (link v : Nat) :
    (s.reported w i o id link v).alertQueue = (s.raise w i (applyOutcomes (s.config w) o v)).alertQueue := by
  unfold State.reported
  dsimp only
  split
  · rfl
  · exact State.reportValue_alertQueue ..

theorem State.list_raise (s : State) (w : WinNo) (i : Nat) (ks : List AlertKind) (j : UpId) :
    (s.raise w i ks).list j = s.list j :=
  State.list_of_upstream (s.raise_upstream w i ks) j

theorem State.list_reportValue_ne {j : UpId} (h : j ≠ id) (s : State) (key v : Nat) :
    (s.reportValue id key v).list j = s.list j := by
  have hset : ∀ a, (s.setList id a).list j = s.list j := fun a => by rw [State.list_setList, if_neg h.symm]
  unfold State.reportValue
  dsimp only
  repeat' split
  all_goals exact hset _

theorem State.list_reported_ne {j : UpId} (h : j ≠ id) : (s.reported w i o id link v).list j = s.list j := by
  unfold State.reported
  dsimp only
  split
  · exact State.list_raise ..
  · rw [State.list_reportValue_ne h, State.list_raise]

/-- A READ or TAKE answers its record and those that take its result (R55). -/
theorem State.records_reported (hk : o.kind = .read ∨ o.kind = .take) :
    ((s.reported w i o id link v).list id).records = answerRecords (Record.takesResult link)
      (fun r => { status := .done, data := laneBytes v r.lane r.size }) (s.list id).records := by
  simp only [State.reported, OpKind.isPosted_eq_false.mpr hk, Bool.false_eq_true, if_false, State.records_reportValue,
    if_true, State.list_raise]

/-- A READ or TAKE fills the latch whose source it is (R55). -/
theorem State.latch_reported {j k : Nat} {a : WinNo} (hk : o.kind = .read ∨ o.kind = .take)
    (hl : s.latch id = .pending a k j link) :
    (s.reported w i o id link v).latch id = .filled a k j (v / 2 ^ (32 * j)) := by
  simp only [State.reported, OpKind.isPosted_eq_false.mpr hk, Bool.false_eq_true, if_false, State.latch_reportValue,
    if_true, State.latch_raise, hl, Latch.reported]

/-- Where an operation is applied at once, its own list, latch and alerts change as it reports, and the issue queue, the
snapshot engine and the other entries stay. -/
theorem State.applyNow_frame (hx : s.entry e = some x) (hv : x.body.liveValue = some v) :
    (s.applyNow e o id link).beside = (s.reported x.window x.index o id link v).beside ∧
      ∀ f, f ≠ e → (s.applyNow e o id link).entry f = s.entry f := by
  constructor
  · by_cases hk : o.kind = .read
    · rw [State.applyNow_read hx hv hk, State.useClean_beside, State.setEntry_beside]
    · rw [State.applyNow_update hx hv hk, State.markUpdate_beside, State.setEntry_beside]
  · obtain ⟨y, hy, -⟩ := State.applyNow_rewrites hx hv o id link
    exact fun f => hy.entry_ne

theorem State.applyNow_uses (hx : s.entry e = some x) (hv : x.body.liveValue = some v) (hk : o.kind = .read) :
    s.Uses (s.applyNow e o id link) e x v := by
  rw [State.applyNow_read hx hv hk]
  exact State.uses_of_useClean (s.reported_aside x.window x.index o id link v).2 hv

theorem State.applyNow_updates (hx : s.entry e = some x) (hv : x.body.liveValue = some v) (hk : o.kind ≠ .read) :
    s.Updates (s.applyNow e o id link) e x v (applyValue (s.config x.window) o v) := by
  obtain ⟨hf, ht⟩ := s.reported_aside x.window x.index o id link v
  rw [State.applyNow_update hx hv hk]
  exact State.updates_of_markUpdate hf ht

theorem State.carryOut_live (hl : s.lookup w i = some e) (hx : s.entry e = some x) (hv : x.body.liveValue = some v) :
    s.carryOut w i o id link none = s.applyNow e o id link := by
  obtain ⟨m, hb⟩ | ⟨m, hb⟩ := Body.liveValue_some hv <;> simp only [State.carryOut, hl, hx, hb]

/-! ### Gathering under a policy (R75) -/

theorem policySum_eq (p : Policy) (l : Width) (a b : Nat) :
    policySum p l a b = if p = .wrap then (a + b) % l.modulus else min (a + b) (l.modulus - 1) := by
  cases p <;> rfl

theorem foldMark_eq (l : Width) (d a : Nat) (m : Bool) : foldMark l d a m = (m || decide (l.modulus - 1 < d + a)) := by
  have hpos := l.modulus_pos
  have hlt : l.modulus - 1 < d + a ↔ l.modulus ≤ d + a := by omega
  simp only [foldMark, hlt]

/-! ### Freeing (R65) -/

theorem State.freeCount_eq_card (s : State) : s.freeCount = (Finset.univ.filter fun f => s.entry f = none).card := by
  have hfree : Option.isNone ∘ s.entry = fun f => decide (s.entry f = none) := by
    funext f
    cases hf : s.entry f <;> simp [hf]
  rw [State.freeCount, State.entries_toList, List.countP_map, hfree, List.countP_eq_length_filter]
  rfl

theorem State.freeCount_freeEntry (h : s.entry e ≠ none) : (s.freeEntry e).freeCount = s.freeCount + 1 := by
  have hentry : ∀ f, (s.freeEntry e).entry f = if e = f then none else s.entry f := fun f => s.entry_setEntry e f none
  have hold : e ∉ Finset.univ.filter fun f => s.entry f = none := by simpa using h
  rw [State.freeCount_eq_card, State.freeCount_eq_card, ← Finset.card_insert_of_notMem hold]
  congr 1
  ext f
  rw [Finset.mem_filter, Finset.mem_insert, Finset.mem_filter, hentry]
  by_cases hf : e = f
  · simp [hf]
  · simp [hf, Ne.symm hf]

end Sys2Proof.Machine

open Sys2Proof Sys2Proof.Machine

/-- Settles O25, by the state of the counter's entry: live (`State.applyNow_uses`, `State.applyNow_updates`), gathering or
waiting (`State.foldAdd_accum` to `State.appendWaiters_fetch`), absent (`State.carryOut_first_add`,
`State.carryOut_first_waiter`); and what freeing an entry takes away. -/
theorem acceptanceByEntryState : Obligations.AcceptanceByEntryState := by
  refine ⟨fun s w i v o id link e x hl hx hw hi hcap hbody => ?_,
    fun s w i d m q o id link e x hl hx hw hi hcap => ?_,
    fun s w i o id link e rest hl hcap hnone hclean => ?_, fun s e he => ?_⟩
  · have hv : x.body.liveValue = some v := by rcases hbody with hb | hb | hb | hb <;> rw [hb] <;> rfl
    subst hw hi
    dsimp only
    rw [State.accept_plain hcap, State.carryOut_live hl hx hv]
    obtain ⟨hbeside, hothers⟩ := State.applyNow_frame (o := o) (id := id) (link := link) hx hv
    have hparts := hbeside
    simp only [State.beside, Prod.mk.injEq] at hparts
    obtain ⟨-, -, halerts, hseq, -, hissue⟩ := hparts
    have hqueue := s.alertQueue_reported x.window x.index o id link v
    simp only [State.alertQueue, Prod.mk.injEq] at hqueue
    have htable := (s.reported_aside x.window x.index o id link v).2
    simp only [State.tableSide, Prod.mk.injEq] at htable
    obtain ⟨-, -, -, hkept, -⟩ := htable
    refine ⟨State.applyNow_uses hx hv, State.applyNow_updates hx hv, hothers, hissue.trans hkept,
      halerts.trans hqueue.1, hseq.trans hqueue.2, fun hk => ?_, fun hk a j k hlatch => ?_, fun j hj => ?_⟩
    · rw [State.list_of_beside hbeside, State.records_reported hk]
    · rw [State.latch_of_beside hbeside, State.latch_reported hk hlatch]
    · rw [State.list_of_beside hbeside, State.list_reported_ne hj]
  · subst hw hi
    dsimp only
    rw [State.accept_plain hcap]
    refine ⟨fun hk hb => ?_, fun hk hb hw => ?_, fun hk hb => ?_, fun hk hb => ?_⟩
    · rw [State.carryOut_folds_accum hl hx hk hb, State.foldAdd_accum hx hb, policySum_eq, foldMark_eq]
      rfl
    · rw [State.carryOut_folds_fetch hl hx hk hb hw, State.foldAdd_fetch hx hb, policySum_eq, foldMark_eq]
      rfl
    · rw [State.carryOut_queues_accum hl hx (.inl hk) hb, State.appendWaiters_accum hx hb, Entry.queued,
        OpKind.ite_isUpdate]
      simp only [Option.isSome_none, Bool.or_false]
      rfl
    · rw [State.carryOut_queues_fetch hl hx (hk.imp_left .inl) hb, State.appendWaiters_fetch hx hb, Entry.queued,
        OpKind.ite_isUpdate]
      simp only [Option.isSome_none, Bool.or_false]
      rfl
  · have halloc : s.allocates e rest := .inr ⟨hnone, hclean⟩
    dsimp only
    rw [State.accept_plain hcap]
    by_cases hk : o.kind = .add
    · rw [State.carryOut_first_add hl halloc hk]
      exact ⟨rfl, fun f hf => State.entry_setEntry_ne s hf.symm _,
        fun _ => ⟨rfl, rfl, State.entry_setEntry_same ..⟩, fun h => absurd hk h⟩
    · rw [State.carryOut_first_waiter hl halloc (.inl hk)]
      exact ⟨rfl, fun f hf => State.entry_setEntry_ne s hf.symm _, fun h => absurd h hk,
        fun _ => ⟨rfl, rfl, State.entry_setEntry_same ..⟩⟩
  · refine ⟨State.entry_setEntry_same .., State.freeCount_freeEntry he, fun f hf => State.entry_setEntry_ne s hf.symm _, ?_,
      fun f hf => ?_⟩
    · simp [State.freeEntry]
    · simp [State.freeEntry, hf]

end

section
/-!
SUPPORT. The walk's step, its lacks and the happenings it waits for (R66, R132, R133).
-/

namespace Sys2Proof.Machine

variable {s a b : State} {w : WinNo} {i n : Nat} {p : SnapJob} {xs : List Nat} {l : Option WalkLack}

/-! ### The walk step (R132) -/

/-- The skips end before a bound that the list's length sets. -/
theorem skipExceptions_eq_of_length_le {m : Nat} (hn : xs.length ≤ n) (hm : xs.length ≤ m) :
    skipExceptions n p xs = skipExceptions m p xs := by
  induction n generalizing m p xs with
  | zero =>
    obtain rfl := List.length_eq_zero_iff.mp (Nat.le_zero.mp hn)
    cases m <;> simp [skipExceptions]
  | succ n ih =>
    cases m with
    | zero =>
      obtain rfl := List.length_eq_zero_iff.mp (Nat.le_zero.mp hm)
      simp [skipExceptions]
    | succ m =>
      unfold skipExceptions
      split
      · rename_i hskip
        have hlen : (xs.filter fun j => decide (j ≠ p.cursor)).length < xs.length :=
          List.length_filter_lt_length_iff_exists.mpr ⟨p.cursor, hskip.2, by simp⟩
        exact ih (by omega) (by omega)
      · rfl

theorem skipExceptions_stops (h : ¬ (p.cursor < p.first + p.count ∧ p.cursor ∈ xs)) :
    skipExceptions n p xs = (p, xs) := by
  cases n with
  | zero => rfl
  | succ n => exact if_neg h

theorem skipExceptions_passes (hlt : p.cursor < p.first + p.count) (hmem : p.cursor ∈ xs) :
    skipExceptions xs.length p xs =
      skipExceptions (xs.filter fun j => decide (j ≠ p.cursor)).length { p with cursor := p.cursor + 1 }
        (xs.filter fun j => decide (j ≠ p.cursor)) := by
  obtain ⟨n, hn⟩ : ∃ n, xs.length = n + 1 := Nat.exists_eq_add_one.mpr (List.length_pos_of_mem hmem)
  have hlen : (xs.filter fun j => decide (j ≠ p.cursor)).length < xs.length :=
    List.length_filter_lt_length_iff_exists.mpr ⟨p.cursor, hmem, by simp⟩
  rw [hn, skipExceptions, if_pos ⟨hlt, hmem⟩]
  exact skipExceptions_eq_of_length_le (by omega) le_rfl

/-- The walk with this job and these exceptions. -/
def State.walkAt (s : State) (r : SnapJob × List Nat) : State :=
  { s with snap := { s.snap with job := some r.1, exceptions := r.2 } }

/-- What a walk step does at the cursor that the skips come to, with the exceptions that they leave. -/
def State.walkFrom (s : State) (r : SnapJob × List Nat) : State :=
  let t := s.walkAt r
  if r.1.cursor < r.1.first + r.1.count then
    match t.walkLackOf r.1.window r.1.cursor with
    | some l => t.setLack (some l)
    | none => ((t.setLack none).setSlot 16 (.requested r.1.cursor)).requestCapture r.1.window r.1.cursor 16
  else (t.setLack none).completionCheck

theorem State.walkStep_idle (h : s.snap.state.isRunning = false ∨ s.slot 16 ≠ .free) : s.walkStep = s := by
  have hno : (s.snap.state.isRunning && decide (s.slot 16 = .free) && !s.softInterval) = false := by
    rcases h with h | h <;> simp [h]
  simp only [State.walkStep, hno, Bool.false_eq_true, if_false]

/-- A step that is made, from a job and the exceptions that stand. -/
theorem State.walkStep_walkAt (hsoft : s.softInterval = false) (hrun : s.snap.state.isRunning = true)
    (hslot : s.slot 16 = .free) (r : SnapJob × List Nat) :
    (s.walkAt r).walkStep = s.walkFrom (skipExceptions r.2.length r.1 r.2) := by
  have hyes : ((s.walkAt r).snap.state.isRunning && decide ((s.walkAt r).slot 16 = .free) &&
      !(s.walkAt r).softInterval) = true := by
    simp only [Bool.and_eq_true, decide_eq_true_eq, Bool.not_eq_true']
    exact ⟨⟨hrun, hslot⟩, hsoft⟩
  rw [State.walkStep, if_pos hyes]
  rfl

theorem State.walkAt_self (hjob : s.snap.job = some p) : s.walkAt (p, s.snap.exceptions) = s := by
  rw [State.walkAt, ← hjob]

theorem State.walkStep_running (hsoft : s.softInterval = false) (hrun : s.snap.state.isRunning = true)
    (hslot : s.slot 16 = .free) (hjob : s.snap.job = some p) :
    s.walkStep = s.walkFrom (skipExceptions s.snap.exceptions.length p s.snap.exceptions) := by
  have hstep := State.walkStep_walkAt hsoft hrun hslot (p, s.snap.exceptions)
  rwa [State.walkAt_self hjob] at hstep

/-- An index of the exception list at the cursor is passed over. -/
theorem State.walkStep_passes (hsoft : s.softInterval = false) (hrun : s.snap.state.isRunning = true)
    (hslot : s.slot 16 = .free) (hjob : s.snap.job = some p) (hlt : p.cursor < p.first + p.count)
    (hin : p.cursor ∈ s.snap.exceptions) : s.walkStep = (s.walkAt ({ p with cursor := p.cursor + 1 },
      s.snap.exceptions.filter fun j => decide (j ≠ p.cursor))).walkStep := by
  rw [State.walkStep_running hsoft hrun hslot hjob, State.walkStep_walkAt hsoft hrun hslot,
    skipExceptions_passes hlt hin]

/-! With nothing to skip, the step is made in the state as it stands. -/

theorem State.walkFrom_lacking {l : WalkLack} (hjob : s.snap.job = some p) (hlt : p.cursor < p.first + p.count)
    (hl : s.walkLackOf p.window p.cursor = some l) : s.walkFrom (p, s.snap.exceptions) = s.setLack (some l) := by
  simp only [State.walkFrom, State.walkAt_self hjob, hlt, if_true, hl]

theorem State.walkFrom_requesting (hjob : s.snap.job = some p) (hlt : p.cursor < p.first + p.count)
    (hl : s.walkLackOf p.window p.cursor = none) : s.walkFrom (p, s.snap.exceptions) =
      ((s.setLack none).setSlot 16 (.requested p.cursor)).requestCapture p.window p.cursor 16 := by
  simp only [State.walkFrom, State.walkAt_self hjob, hlt, if_true, hl]

theorem State.walkFrom_done (hjob : s.snap.job = some p) (hle : p.first + p.count ≤ p.cursor) :
    s.walkFrom (p, s.snap.exceptions) = (s.setLack none).completionCheck := by
  simp only [State.walkFrom, State.walkAt_self hjob, hle.not_gt, if_false]

theorem State.retryWalk_lacking {l : WalkLack} (h : s.snap.state = .running (some l)) : s.retryWalk = s.walkStep := by
  simp only [State.retryWalk, h]

theorem State.retryWalk_none (h : ∀ l, s.snap.state ≠ .running (some l)) : s.retryWalk = s := by
  unfold State.retryWalk
  split
  · rename_i l hl
    exact absurd hl (h l)
  all_goals rfl

/-! ### Lacks and happenings (R66, R133) -/

theorem State.walkLackOf_noEntry (h : s.noEntryFor w i) : s.walkLackOf w i = some .noEntry :=
  if_pos (State.noEntryFor_iff.mpr h)

theorem State.walkLackOf_of_records (hneed : s.recordsNeeded w i .read false n) (hno : ¬ s.noEntryFor w i) :
    s.walkLackOf w i = if s.freeWaiters < n then some .noWaiter else none := by
  rw [State.walkLackOf, if_neg (mt State.noEntryFor_iff.mp hno), State.waiterNeed_eq hneed]

/-- What the walk's lack waits for has happened. -/
theorem walkDue_iff : walkDue a b = true ↔
    (b.snap.state = .running (some .noEntry) ∧ (entryFreed a b = true ∨ joinedClean a b = true)) ∨
    (b.snap.state = .running (some .noWaiter) ∧ ∃ j, b.snap.job = some j ∧
      (a.freeWaiters < b.freeWaiters ∨ leftFetch a b j.window j.cursor = true)) := by
  unfold walkDue
  split
  next hs => simp [hs]
  next j hs hj => simp [hs, hj, waiterReturned]
  next hentry hwaiter =>
    simp only [Bool.false_eq_true, false_iff, not_or, not_and, not_exists]
    exact ⟨fun hs => (hentry hs).elim, fun hs j hj => (hwaiter j hs hj).elim⟩

end Sys2Proof.Machine

end

section
/-!
SUPPORT. Capture requests, captures taken at once, withdrawal and early captures (R81 to R84, R127, R134 to R138).
-/

namespace Sys2Proof.Machine

variable {s : State} {e : EntryNo} {x : Entry} {rest : List EntryNo} {w : WinNo} {i j v d link : Nat} {m : Bool}
  {q : FetchCause} {o : Operation} {id : UpId} {k : SlotNo}

/-! ### Captures taken at once (R83, R134, R138) -/

theorem State.slotCaptured_requested (hk : s.slot k = .requested j) (v : Nat) : s.slotCaptured k v =
    { s with snap := { s.snap with
        slots := s.snap.slots.set k.val (.captured j v) k.isLt
        writeOrder := s.snap.writeOrder ++ [k]
        job := if k = 16 then s.snap.job.map (fun b => { b with cursor := b.cursor + 1 }) else s.snap.job } } := by
  simp only [State.slotCaptured, hk, State.setSlot]

theorem State.captureNow_copy (hx : s.entry e = some x) (hv : x.body.liveValue = some v) (hc : s.clearing = false) :
    s.captureNow e k = ((s.slotCaptured k v).setEntry e (some { x with lastUse := s.tick })).useClean e := by
  simp only [State.captureNow, hx, hv, hc, Bool.false_eq_true, if_false]

theorem State.captureNow_clear (hx : s.entry e = some x) (hv : x.body.liveValue = some v) (hc : s.clearing = true) :
    s.captureNow e k = ((s.slotCaptured k v).setEntry e
      (some { x with body := x.body.withValue 0, lastUse := s.tick })).markUpdate e := by
  simp only [State.captureNow, hx, hv, hc, if_true]

/-- Where a capture is taken at once, the slot's engine changes as it is taken, and the lists, latches, alerts, the issue
queue and the other entries stay. -/
theorem State.captureNow_frame (hx : s.entry e = some x) (hv : x.body.liveValue = some v) :
    (s.captureNow e k).beside = (s.slotCaptured k v).beside ∧
      ∀ f, f ≠ e → (s.captureNow e k).entry f = s.entry f := by
  constructor
  · cases hc : s.clearing with
    | false => rw [State.captureNow_copy hx hv hc, State.useClean_beside, State.setEntry_beside]
    | true => rw [State.captureNow_clear hx hv hc, State.markUpdate_beside, State.setEntry_beside]
  · obtain ⟨y, hy, -⟩ := State.captureNow_rewrites hx hv k
    exact fun f => hy.entry_ne

theorem State.captureNow_uses (hx : s.entry e = some x) (hv : x.body.liveValue = some v) (hc : s.clearing = false) :
    s.Uses (s.captureNow e k) e x v := by
  rw [State.captureNow_copy hx hv hc]
  exact State.uses_of_useClean (s.slotCaptured_tableSide k v) hv

theorem State.captureNow_updates (hx : s.entry e = some x) (hv : x.body.liveValue = some v) (hc : s.clearing = true) :
    s.Updates (s.captureNow e k) e x v 0 := by
  rw [State.captureNow_clear hx hv hc]
  exact State.updates_of_markUpdate (s.slotCaptured_fixed k v) (s.slotCaptured_tableSide k v)

theorem State.slot_of_snap {t : State} (h : t.snap = s.snap) (k : SlotNo) : t.slot k = s.slot k := by
  rw [State.slot, h]
  rfl

/-- A capture taken at once for a REQUESTED slot, in the snapshot engine. -/
theorem State.captureNow_snap (hx : s.entry e = some x) (hv : x.body.liveValue = some v) (hk : s.slot k = .requested j) :
    (s.captureNow e k).slot k = .captured j v ∧ (∀ n, n ≠ k → (s.captureNow e k).slot n = s.slot n) ∧
      (s.captureNow e k).snap.writeOrder = s.snap.writeOrder ++ [k] ∧
      (s.captureNow e k).snap.job =
        if k = 16 then s.snap.job.map (fun b => { b with cursor := b.cursor + 1 }) else s.snap.job := by
  have hsnap : (s.captureNow e k).snap = (s.slotCaptured k v).snap :=
    congrArg (fun p => p.2.2.2.2.1) (State.captureNow_frame hx hv).1
  have htaken := State.slotCaptured_requested hk v
  refine ⟨?_, fun n hn => ?_, ?_, ?_⟩
  · rw [State.slot_of_snap hsnap, htaken]
    exact s.slot_setSlot_same k _
  · rw [State.slot_of_snap hsnap, htaken]
    exact (s.slot_setSlot k n (.captured j v)).trans (if_neg hn.symm)
  · rw [hsnap, htaken]
  · rw [hsnap, htaken]

theorem State.snap_applyNow (hx : s.entry e = some x) (hv : x.body.liveValue = some v) :
    (s.applyNow e o id link).snap = s.snap := by
  have hsnap : (s.applyNow e o id link).snap = (s.reported x.window x.index o id link v).snap :=
    congrArg (fun p => p.2.2.2.2.1) (State.applyNow_frame hx hv).1
  rw [hsnap, State.reported]
  split
  · exact State.snap_raise ..
  · rw [State.snap_reportValue, State.snap_raise]

/-! ### Capture requests of the walk (R81) -/

theorem Entry.queued_walk (x : Entry) (ws : List Waiter) (now : Ticks) : x.queued ws false true now =
    { x with waiters := x.waiters ++ ws, lastUse := now, captureRequested := true } := by
  simp only [Entry.queued, Bool.false_eq_true, if_false, Bool.or_true]

theorem Entry.queued_update (x : Entry) (ws : List Waiter) (now : Ticks) : x.queued ws true true now =
    { x with
      waiters := x.waiters ++ ws
      lastUse := now
      dirtySince := some (x.dirtySince.getD now)
      captureRequested := true } := by
  simp only [Entry.queued, if_true, Bool.or_true]

theorem State.requestCapture_first (hl : s.lookup w i = none) (ha : s.allocates e rest) : s.requestCapture w i k =
    { s.setEntry e (some (.awaiting w i [.capture k] none true s.tick)) with
      clean := rest, issue := s.issue ++ [e] } := by
  simp only [State.requestCapture, hl, State.obtain_of_allocates ha]
  exact s.allocFetch_obtained e rest w i [.capture k] false true

theorem State.requestCapture_waits (hl : s.lookup w i = some e) (hx : s.entry e = some x)
    (hb : (∃ d m, x.body = .accum d m) ∨ ∃ d m q, x.body = .fetch d m q) :
    s.requestCapture w i k = s.appendWaiters e [.capture k] false true := by
  obtain ⟨d, m, hb⟩ | ⟨d, m, q, hb⟩ := hb <;> simp only [State.requestCapture, hl, hx, hb]

theorem State.requestCapture_live (hl : s.lookup w i = some e) (hx : s.entry e = some x)
    (hv : x.body.liveValue = some v) : s.requestCapture w i k = s.captureNow e k := by
  obtain ⟨m, hb⟩ | ⟨m, hb⟩ := Body.liveValue_some hv <;> simp only [State.requestCapture, hl, hx, hb]

/-! ### Withdrawal (R84) -/

theorem State.entry_withdrawCaptures (s : State) (e : EntryNo) : s.withdrawCaptures.entry e =
    (s.entry e).map (fun x => if x.captureRequested = true then
      { x with waiters := x.waiters.filter (fun y => !isCapture y), captureRequested := false } else x) := by
  simp only [State.withdrawCaptures, State.entry, Fin.getElem_fin, Vector.getElem_map]

/-! ### Early captures (R82, R127, R135, R136) -/

theorem State.captureMarked_eq_false : s.captureMarked w i = false ↔
    ∀ e x, s.lookup w i = some e → s.entry e = some x → x.captureRequested = false := by
  refine ⟨fun h e x hl hx => ?_, fun h => ?_⟩
  · simpa only [State.captureMarked, hl, hx] using h
  · unfold State.captureMarked
    split
    · rfl
    · rename_i hl
      split
      · rename_i hx
        exact h _ _ hl hx
      · rfl

theorem State.engineWantsCapture_iff : s.engineWantsCapture w i = true ↔
    (∃ l, s.snap.state = .running l) ∧ ∃ b, s.snap.job = some b ∧ b.window = w ∧ b.first ≤ i ∧ i < b.first + b.count ∧
      b.cursor ≤ i ∧ i ∉ s.snap.exceptions := by
  rw [State.engineWantsCapture, Bool.and_eq_true, SnapState.isRunning_iff]
  cases s.snap.job <;> simp

theorem State.earlyCapture_iff {a : OpKind} : s.earlyCapture w i a = true ↔
    a ≠ .read ∧ s.captureMarked w i = false ∧ s.engineWantsCapture w i = true := by
  rw [State.earlyCapture, Bool.and_eq_true, Bool.and_eq_true, OpKind.isUpdate_iff, Bool.not_eq_true', and_assoc]

theorem State.earlySlot_of_lowest (h16 : k ≠ 16) (hfree : s.slot k = .free) (hbefore : ∀ n < k, s.slot n ≠ .free) :
    s.earlySlot = some k := by
  rw [State.earlySlot, find?_finRange_iff]
  refine ⟨by simp [h16, hfree], fun n hn => ?_⟩
  simp [hbefore n hn]

theorem State.accept_early (hcap : s.earlyCapture w i o.kind = true) (hslot : s.earlySlot = some k) :
    s.accept w i o id link = (s.takeEarly i k).carryOut w i o id link (some k) := by
  simp only [State.accept, hcap, if_true, hslot]

/-- The early slot taken is REQUESTED for the counter. -/
theorem State.slot_takeEarly (s : State) (i : Nat) (k : SlotNo) : (s.takeEarly i k).slot k = .requested i :=
  s.slot_setSlot_same k (.requested i)

theorem State.carryOut_live_early (hl : s.lookup w i = some e) (hx : s.entry e = some x)
    (hv : x.body.liveValue = some v) :
    s.carryOut w i o id link (some k) = (s.captureNow e k).applyNow e o id link := by
  obtain ⟨m, hb⟩ | ⟨m, hb⟩ := Body.liveValue_some hv <;> simp only [State.carryOut, hl, hx, hb]

/-- An operation with its capture ahead of it on a live value: the slot takes the value, the exceptions stay, and the
operation is applied to what the capture leaves. -/
theorem State.carryOut_live_effect (hl : s.lookup w i = some e) (hx : s.entry e = some x) (hv : x.body.liveValue = some v)
    (hk : s.slot k = .requested j) :
    let t := s.carryOut w i o id link (some k)
    t.snap.exceptions = s.snap.exceptions ∧ t.slot k = .captured j v ∧
      t.snap.writeOrder = s.snap.writeOrder ++ [k] ∧ ∃ y, t.entry e = some y ∧
        y.body.liveValue = some (applyValue (s.config x.window) o (if s.clearing = true then 0 else v)) := by
  obtain ⟨z, hz, hzw, -, hzv⟩ := State.captureNow_rewrites hx hv k
  obtain ⟨y, hy, -, -, hyv⟩ := State.applyNow_rewrites hz.entry_same hzv o id link
  obtain ⟨hslot, -, horder, -⟩ := State.captureNow_snap hx hv hk
  have hexc : (s.captureNow e k).snap.exceptions = s.snap.exceptions :=
    congrArg (fun p => p.2.1) (s.captureNow_tally e k)
  have hsnap := State.snap_applyNow (o := o) (id := id) (link := link) hz.entry_same hzv
  dsimp only
  rw [State.carryOut_live_early hl hx hv, State.slot_of_snap hsnap, hsnap]
  refine ⟨hexc, hslot, horder, y, hy.entry_same, ?_⟩
  rw [hyv, hzw, hz.config]

theorem State.carryOut_stranded {cap : Option SlotNo} (hl : s.lookup w i = some e) (hx : s.entry e = some x)
    (hb : x.body.isStranded = true) : s.carryOut w i o id link cap = s := by
  cases hbody : x.body <;> simp_all [State.carryOut, Body.isStranded]

/-- An accepted operation with its capture takes no further place of the exception list. -/
theorem State.exceptions_carryOut_early (hl : s.lookup w i = some e) (hx : s.entry e = some x)
    (hk : s.slot k = .requested j) : (s.carryOut w i o id link (some k)).snap.exceptions = s.snap.exceptions := by
  cases hb : x.body with
  | accum d m => rw [State.carryOut_queues_accum hl hx (.inr rfl) hb, State.appendWaiters_accum hx hb]; rfl
  | fetch d m q => rw [State.carryOut_queues_fetch hl hx (.inl (.inr rfl)) hb, State.appendWaiters_fetch hx hb]; rfl
  | held v m | write v m =>
    have hv : x.body.liveValue = some v := by rw [hb]; rfl
    obtain ⟨hexc, -⟩ := State.carryOut_live_effect (o := o) (id := id) (link := link) hl hx hv hk
    exact hexc
  | strandedFetch d m q | strandedWrite v => rw [State.carryOut_stranded hl hx (by rw [hb]; rfl)]

end Sys2Proof.Machine

open Sys2Proof Sys2Proof.Machine

/-- Settles O42, clause by clause: the step at the cursor that the skips come to (`State.walkStep_running`), the retry, its
lack and its happenings, capture requests by the entry's state, captures taken at once (`State.captureNow_snap`,
`State.captureNow_uses`, `State.captureNow_updates`), withdrawal, and early captures (`State.accept_early`). -/
theorem walkStepsAndRetries : Obligations.WalkStepsAndRetries := by
  refine ⟨fun s b hjob hsoft => ⟨State.walkStep_idle, fun hrun hslot hlt hout => ⟨fun l hl => ?_, fun hl => ?_⟩,
      fun hrun hslot hlt hin => ?_, fun hrun hslot hle => ?_⟩,
    fun s => ⟨fun l hl => next_finish_congr (State.retryWalk_lacking hl) s,
      fun h => next_finish_congr (State.retryWalk_none h) s⟩,
    fun s w i => ⟨State.walkLackOf_noEntry, fun n => State.walkLackOf_of_records⟩,
    fun a b => ?_, fun s w i k => ⟨fun e rest hl ha => ?_, fun e x hl hx => ?_⟩,
    fun s e k x j v m hx hk hb => ?_, fun s => ⟨rfl, fun e => ⟨fun hx => ?_, fun x hx => ?_⟩⟩,
    fun s w i o => ?_, fun s w i o id link e rest k hl ha hcap h16 hfree hbefore => ?_,
    fun s w i o id link e x k hl hx hw hi hcap h16 hfree hbefore => ?_⟩
  · rw [State.walkStep_running hsoft hrun hslot hjob, skipExceptions_stops fun h => hout h.2]
    exact State.walkFrom_lacking hjob hlt hl
  · rw [State.walkStep_running hsoft hrun hslot hjob, skipExceptions_stops fun h => hout h.2]
    exact State.walkFrom_requesting hjob hlt hl
  · exact State.walkStep_passes hsoft hrun hslot hjob hlt hin
  · rw [State.walkStep_running hsoft hrun hslot hjob, skipExceptions_stops fun h => hle.not_gt h.1]
    exact State.walkFrom_done hjob hle
  · rw [walkDue_iff, entryFreed_iff, joinedClean_iff]
    simp only [leftFetch_iff]
  · rw [State.requestCapture_first hl ha]
    exact ⟨State.entry_setEntry_same .., rfl, rfl, rfl, fun f hf => State.entry_setEntry_ne s hf.symm _⟩
  · refine ⟨fun d m hb => ?_, fun d m q hb => ?_, fun v m hb => ?_⟩
    · rw [State.requestCapture_waits hl hx (.inl ⟨d, m, hb⟩), State.appendWaiters_accum hx hb,
        Entry.queued_walk]
    · rw [State.requestCapture_waits hl hx (.inr ⟨d, m, q, hb⟩), State.appendWaiters_fetch hx hb,
        Entry.queued_walk]
    · exact State.requestCapture_live (v := v) hl hx (by rcases hb with hb | hb <;> rw [hb] <;> rfl)
  · have hv : x.body.liveValue = some v := by rcases hb with hb | hb <;> rw [hb] <;> rfl
    obtain ⟨hbeside, hothers⟩ := State.captureNow_frame (k := k) hx hv
    obtain ⟨hslot, hslots, horder, hcursor⟩ := State.captureNow_snap hx hv hk
    rw [State.slotCaptured_requested hk] at hbeside
    simp only [State.beside, Prod.mk.injEq] at hbeside
    obtain ⟨-, -, halerts, hseq, -, hissue⟩ := hbeside
    refine ⟨hslot, hslots, horder, fun h16 b hjob => ?_, fun h16 => ?_, halerts, hseq, hissue, hothers,
      State.captureNow_uses hx hv, fun hc => ?_⟩
    · rw [hcursor, if_pos h16, hjob]
      rfl
    · rw [hcursor, if_neg h16]
    · obtain ⟨hdirty, hclean, hwrite⟩ := State.captureNow_updates (k := k) hx hv hc
      exact ⟨hdirty, hclean, hwrite m⟩
  · rw [State.entry_withdrawCaptures, hx]
    rfl
  · rw [State.entry_withdrawCaptures, hx]
    exact ⟨fun h => by simp [h], fun h => by simp [h]⟩
  · rw [State.earlyCapture_iff, State.captureMarked_eq_false, State.engineWantsCapture_iff]
  · have hread := (State.earlyCapture_iff.mp hcap).1
    dsimp only
    rw [State.accept_early hcap (State.earlySlot_of_lowest h16 hfree hbefore),
      State.carryOut_first_waiter (s := s.takeEarly i k) hl ha (.inr rfl), if_neg hread]
    exact ⟨State.entry_setEntry_same .., s.slot_takeEarly i k, rfl, rfl, rfl, rfl,
      fun f hf => State.entry_setEntry_ne (s.takeEarly i k) hf.symm _⟩
  · have hup := OpKind.isUpdate_iff.mpr (State.earlyCapture_iff.mp hcap).1
    have hslot := s.slot_takeEarly i k
    have hlu : (s.takeEarly i k).lookup w i = some e := hl
    have hxu : (s.takeEarly i k).entry e = some x := hx
    subst hw
    dsimp only
    rw [State.accept_early hcap (State.earlySlot_of_lowest h16 hfree hbefore)]
    refine ⟨State.exceptions_carryOut_early hlu hxu hslot, fun d m hb => ?_, fun d m q hb => ?_, fun v m hb => ?_⟩
    · rw [State.carryOut_queues_accum hlu hxu (.inr rfl) hb, State.appendWaiters_accum hxu hb, hup, Option.isSome_some,
        Entry.queued_update]
      exact ⟨State.entry_setEntry_same .., rfl, rfl, hslot⟩
    · rw [State.carryOut_queues_fetch hlu hxu (.inl (.inr rfl)) hb, State.appendWaiters_fetch hxu hb, hup, Option.isSome_some,
        Entry.queued_update]
      exact ⟨State.entry_setEntry_same .., rfl, rfl, hslot⟩
    · have hv : x.body.liveValue = some v := by rcases hb with hb | hb <;> rw [hb] <;> rfl
      obtain ⟨-, htaken, horder, hentry⟩ := State.carryOut_live_effect (o := o) (id := id) (link := link) hlu hxu hv hslot
      exact ⟨htaken, horder, hentry⟩

end

section
/-!
SUPPORT. Flushes and the happenings that start them (R94 to R107): the tick, the checks it makes, and the order in which the
flushes of one happening stand in the issue queue.
-/

namespace Sys2Proof.Machine

variable {s a b : State} {e : EntryNo} {x : Entry}

/-! ### A flush (R96) -/

theorem State.startFlush_accum {d : Nat} {m : Bool} (hx : s.entry e = some x) (hb : x.body = .accum d m) :
    s.startFlush e = { s.setEntry e (some { x with body := .fetch d m .flush }) with
      dirty := s.dirty.filter (fun f => decide (f ≠ e)), issue := s.issue ++ [e] } := by
  simp only [State.startFlush, hx, hb]

theorem State.startFlush_dirty {v : Nat} (hx : s.entry e = some x) (hb : x.body = .held v true) :
    s.startFlush e = { s.setEntry e (some { x with body := .write v false }) with
      dirty := s.dirty.filter (fun f => decide (f ≠ e)), issue := s.issue ++ [e] } := by
  simp only [State.startFlush, hx, hb]

/-! ### Age and pressure (R98 to R102) -/

/-- The aged heads, with a flush age of 0 as a bound that no entry reaches. -/
theorem State.agedHeads_eq (s : State) :
    s.agedHeads = s.dirty.takeWhile (fun f => decide (s.flushAgeInEffect ≠ 0 ∧ s.flushAgeInEffect ≤ s.age f)) := by
  unfold State.agedHeads
  split
  · rename_i hzero
    simp [hzero, List.takeWhile_eq_nil_iff]
  · rename_i hne
    simp [hne]

theorem State.ageCheck_of_unaged (h : s.softInterval = true ∨ s.flushAgeInEffect = 0) : s.ageCheck = s := by
  unfold State.ageCheck
  split
  · rfl
  · rename_i hsoft
    rw [State.agedHeads, if_pos (h.resolve_left hsoft)]
    rfl

theorem State.ageCheck_of_aged (hsoft : s.softInterval = false) (hage : s.flushAgeInEffect ≠ 0) :
    s.ageCheck = s.startFlushes (s.dirty.takeWhile (fun f => decide (s.flushAgeInEffect ≤ s.age f))) := by
  unfold State.ageCheck State.agedHeads
  rw [if_neg (by simp [hsoft]), if_neg hage]

theorem State.age_of_entry {d : Ticks} (hx : s.entry e = some x) (hd : x.dirtySince = some d) :
    s.age e = (s.tick - d).toNat := by
  simp only [State.age, hx, hd]

theorem State.pressureAct_of_rest (h : s.lowMark ≤ s.freeCount + s.clean.length ∨ s.softInterval = true) :
    s.pressureAct = s := by
  refine if_pos ?_
  rcases h with hmark | hsoft
  · simpa [State.pressure] using .inr hmark
  · simp [hsoft]

theorem State.pressureAct_of_pressure (hmark : s.freeCount + s.clean.length < s.lowMark) (hsoft : s.softInterval = false) :
    s.pressureAct = (s.freeEntries s.clean).startFlushes
      ((s.freeEntries s.clean).dirty.take (2 - (s.freeEntries s.clean).issue.length)) :=
  if_neg (by simp [hsoft, State.pressure, hmark])

/-! ### The tick (R94, R98, R104, R107) -/

/-- The tick count advanced, the clock count restarted and the flush age in effect, before the checks of the tick. -/
def State.ticked (s : State) : State :=
  { s with tick := s.tick + 1, clock := 0, flushAgeInEffect := s.flushAge }

theorem State.tickOnce_soft (h : s.softInterval = true) : s.tickOnce = s.ticked := if_pos h

theorem State.tickOnce_flushes (h : s.softInterval = false) : s.tickOnce = s.ticked.startFlushes s.ticked.tickPicks :=
  if_neg (ne_true_of_eq_false h)

/-- TICK_ADVANCE is a tick at whatever clock count (assumption 8), but under RST_N (assumption 6). -/
theorem exec_tickAdvance (s : State) :
    exec .tickAdvance s = .next (if s.rstAsserted then s else finish s s.tickOnce) := rfl

theorem State.tickOnce_fixed (s : State) : s.tickOnce.fixed = s.ticked.fixed := by
  cases h : s.softInterval with
  | true => rw [State.tickOnce_soft h]
  | false => rw [State.tickOnce_flushes h, State.startFlushes_fixed]

theorem State.drainPick_iff : s.drainPick e = true ↔ ∃ x, s.entry e = some x ∧ s.draining x.window = true := by
  unfold State.drainPick
  cases s.entry e <;> simp

theorem State.flushAllPick_iff : s.flushAllPick e = true ↔
    s.flushAllRunning = true ∧ ∃ x v, s.entry e = some x ∧ x.body = .held v true ∧ x.flushAll = true := by
  unfold State.flushAllPick
  rw [Bool.and_eq_true]
  refine and_congr_right fun _ => ?_
  cases s.entry e with
  | none => simp
  | some x =>
    dsimp only
    split <;> simp [*]

/-- What the three checks of a tick pick of the dirty list. -/
theorem State.mem_tickPicks (he : e ∈ s.dirty) : e ∈ s.tickPicks ↔
    e ∈ s.dirty.takeWhile (fun f => decide (s.flushAgeInEffect ≠ 0 ∧ s.flushAgeInEffect ≤ s.age f)) ∨
      (∃ x, s.entry e = some x ∧ s.draining x.window = true) ∨
      (s.flushAllRunning = true ∧ ∃ x v, s.entry e = some x ∧ x.body = .held v true ∧ x.flushAll = true) := by
  rw [State.tickPicks, List.mem_filter, Bool.or_eq_true, Bool.or_eq_true, decide_eq_true_eq, State.agedHeads_eq,
    State.drainPick_iff, State.flushAllPick_iff, or_assoc]
  exact and_iff_right he

theorem State.tickPicks_sublist (s : State) : s.tickPicks.Sublist s.dirty := List.filter_sublist

/-! ### The order of flushes started at one happening (R96) -/

theorem flushedNow_iff : flushedNow a b e = true ↔ e ∈ a.dirty ∧ e ∉ a.issue ∧ ∃ x, b.entry e = some x ∧
    ((∃ d m, x.body = .fetch d m .flush) ∨ ∃ v r, x.body = .write v r) := by
  unfold flushedNow
  rw [Bool.and_eq_true, Bool.and_eq_true, decide_eq_true_eq, decide_eq_true_eq, and_assoc]
  refine and_congr_right fun _ => and_congr_right fun _ => ?_
  cases b.entry e with
  | none => simp
  | some x =>
    dsimp only
    split
    case h_1 d m hb => exact iff_of_true rfl ⟨x, rfl, .inl ⟨d, m, hb⟩⟩
    case h_2 v r hb => exact iff_of_true rfl ⟨x, rfl, .inr ⟨v, r, hb⟩⟩
    all_goals simp [*]

/-- A refilled queue holds the new entries in their order. -/
theorem sublist_refill (which : EntryNo → Bool) (q sorted : List EntryNo)
    (h : sorted.length ≤ (q.filter which).length) : sorted.Sublist (refill which q sorted) := by
  induction q generalizing sorted with
  | nil =>
    rw [List.filter_nil, List.length_nil, Nat.le_zero, List.length_eq_zero_iff] at h
    exact h ▸ List.nil_sublist _
  | cons x xs ih =>
    cases sorted with
    | nil => exact List.nil_sublist _
    | cons y ys =>
      rw [refill]
      split
      · rename_i hx
        rw [List.filter_cons_of_pos hx] at h
        exact (ih ys (Nat.le_of_succ_le_succ h)).cons_cons y
      · rename_i hx
        rw [List.filter_cons_of_neg hx] at h
        exact (ih (y :: ys) h).cons x

/-- A refilled queue keeps in its place each entry that is not picked. -/
theorem getElem?_refill {which : EntryNo → Bool} (q sorted : List EntryNo) {k : Nat} (hq : q[k]? = some e)
    (he : which e = false) : (refill which q sorted)[k]? = some e := by
  induction q generalizing sorted k with
  | nil => cases hq
  | cons x xs ih =>
    cases k with
    | zero =>
      obtain rfl : x = e := by simpa using hq
      cases sorted <;> simp [refill, he]
    | succ k =>
      have hrest : xs[k]? = some e := by simpa using hq
      cases sorted with
      | nil => exact ih [] hrest
      | cons y ys =>
        rw [refill]
        split
        · exact ih ys hrest
        · exact ih (y :: ys) hrest

/-- The entries flushed at a happening, in dirty-list order: what `orderFlushes` refills the queue with. -/
def flushesStarted (a b : State) : List EntryNo :=
  a.dirty.filter (fun e => flushedNow a b e && decide (e ∈ b.issue))

theorem mem_flushesStarted : e ∈ flushesStarted a b ↔ flushedNow a b e = true ∧ e ∈ b.issue := by
  rw [flushesStarted, List.mem_filter, Bool.and_eq_true, decide_eq_true_eq]
  exact and_iff_right_of_imp fun h => (flushedNow_iff.mp h.1).1

/-- The flushes started fill no more places than the queue has for them. -/
theorem flushesStarted_length_le (ha : a.dirty.Nodup) :
    (flushesStarted a b).length ≤ (b.issue.filter (flushedNow a b)).length := by
  refine ((ha.filter _).subperm fun e he => ?_).length_le
  obtain ⟨hflushed, hissue⟩ := mem_flushesStarted.mp he
  exact List.mem_filter.mpr ⟨hissue, hflushed⟩

end Sys2Proof.Machine

open Sys2Proof Sys2Proof.Machine

/-- Settles O52: the tick picks by its three checks (`State.mem_tickPicks`), and putting the flushes in order permutes the
issue queue (`orderFlushes_perm`), with the flushes started in their order (`sublist_refill`) and every other entry in its
place (`getElem?_refill`). -/
theorem flushesStart : Obligations.FlushesStart := by
  refine ⟨fun s => ⟨fun hrst => ?_, fun hrst hsoft => ?_, fun hrst hsoft => ?_⟩,
    fun s e x hx => ⟨fun _ _ => State.startFlush_accum hx, fun _ => State.startFlush_dirty hx⟩,
    fun s => ⟨State.pressureAct_of_rest, State.pressureAct_of_pressure⟩,
    fun s => ⟨State.ageCheck_of_unaged, State.ageCheck_of_aged, fun _ _ _ => State.age_of_entry⟩, fun a b ha hb => ?_⟩
  · rw [exec_tickAdvance, if_pos hrst]
  · rw [exec_tickAdvance, if_neg (by simp [hrst]), State.tickOnce_soft hsoft]
    rfl
  · refine ⟨s.ticked.tickPicks, ?_, s.ticked.tickPicks_sublist, fun e he => State.mem_tickPicks (s := s.ticked) he⟩
    rw [exec_tickAdvance, if_neg (by simp [hrst]), State.tickOnce_flushes hsoft]
    rfl
  · refine ⟨rfl, orderFlushes_perm ha hb, ⟨flushesStarted a b, List.filter_sublist, ?_, fun e => ?_⟩,
      fun k e hk he => ?_⟩
    · exact sublist_refill _ _ _ (flushesStarted_length_le ha)
    · rw [mem_flushesStarted, flushedNow_iff]
    · exact getElem?_refill _ _ hk (Bool.eq_false_iff.mpr (mt flushedNow_iff.mp he))

end

section
/-!
SUPPORT. The parameters and the clock count (R94, R95), which only the PARAM SETs, the tick, the clock and a hard reset write:
every other operation leaves them as they are (`…_gauges`).
-/

namespace Sys2Proof.Machine

variable {s t : State}

/-! ### The parameters -/

/-- The parameters that have a range, and the clock count. -/
def State.gauges (s : State) :=
  (s.lowMark, s.flushAge, s.flushAgeInEffect, s.prescaler, s.clock)

theorem State.gauges_of_fixed (h : t.fixed = s.fixed) : t.gauges = s.gauges := by
  simp only [State.fixed, Prod.mk.injEq] at h
  simp only [State.gauges, Prod.mk.injEq]
  tauto

theorem State.gauges_of_steady (h : t.steady = s.steady) : t.gauges = s.gauges := by
  simp only [State.steady, Prod.mk.injEq] at h
  simp only [State.gauges, Prod.mk.injEq]
  tauto

theorem State.gauges_of_outer (h : t.outer = s.outer) : t.gauges = s.gauges :=
  State.gauges_of_steady (State.steady_of_outer h)

theorem State.paramsInRange_of_gauges (h : t.gauges = s.gauges) (hs : s.paramsInRange) : t.paramsInRange := by
  simp only [State.gauges, Prod.mk.injEq] at h
  obtain ⟨hmark, hage, heffect, hpre, hclock⟩ := h
  simpa only [State.paramsInRange, hmark, hage, heffect, hpre, hclock] using hs

theorem finish_paramsInRange (a : State) (hs : s.paramsInRange) : (finish a s).paramsInRange :=
  State.paramsInRange_of_gauges (State.gauges_of_steady (finish_steady a s)) hs

/-! ### The table's transactions leave the parameters -/

theorem applyWaiter_fixed (c : WinConfig) (w : WinNo) (i : Nat) (a : WaiterRun) (y : Waiter) :
    (applyWaiter c w i a y).st.fixed = a.st.fixed := by
  cases y with
  | op o id link =>
    simp only [applyWaiter]
    split <;> simp
  | capture k =>
    simp only [applyWaiter]
    split <;> simp

theorem State.runWaiters_fixed (s : State) (x : Entry) (d : Nat) (marked : Bool) (m : Nat) :
    (s.runWaiters x d marked m).st.fixed = s.fixed :=
  (foldl_keeps (fun a : WaiterRun => a.st.fixed) _ (fun a y => applyWaiter_fixed _ _ _ a y) x.waiters _).trans
    (State.raise_fixed ..)

theorem State.settleFetched_fixed (s : State) (e : EntryNo) (x : Entry) (q : FetchCause) (v : Nat) (dirty cleared : Bool) :
    (s.settleFetched e x q v dirty cleared).fixed = s.fixed := by
  unfold State.settleFetched
  dsimp only
  repeat' split
  all_goals rfl

theorem State.fetched_fixed (s : State) (e : EntryNo) (m : Nat) : (s.fetched e m).fixed = s.fixed := by
  unfold State.fetched
  split
  · rfl
  · split
    · exact (State.settleFetched_fixed ..).trans (State.runWaiters_fixed ..)
    all_goals rfl

theorem State.written_fixed (s : State) (e : EntryNo) : (s.written e).fixed = s.fixed := by
  unfold State.written
  split
  · rfl
  · split
    · dsimp only
      repeat' split
      all_goals rfl
    all_goals rfl

theorem State.reenterAll_fixed (s : State) (w : WinNo) : (s.reenterAll w).fixed = s.fixed := by
  refine foldl_keeps State.fixed State.reenter (fun a e => ?_) (s.strandedOf w) s
  unfold State.reenter
  repeat' split
  all_goals rfl

theorem State.faultExit_gauges (s : State) (w : WinNo) : (s.faultExit w).gauges = s.gauges := by
  unfold State.faultExit
  split
  · split
    · split
      · rfl
      · exact (State.gauges_of_fixed (State.drainStart_fixed _ w) :)
    · rfl
  all_goals rfl

theorem State.retrySucceeded_gauges (s : State) (x : Entry) : (s.retrySucceeded x).gauges = s.gauges := by
  unfold State.retrySucceeded
  split
  · exact s.faultExit_gauges _
  · rfl

theorem State.fetchOk_gauges (s : State) (e : EntryNo) (m : Nat) : (s.fetchOk e m).gauges = s.gauges := by
  unfold State.fetchOk
  split
  · exact (State.retrySucceeded_gauges ..).trans (State.gauges_of_fixed (s.fetched_fixed e m))
  · rfl

theorem State.writeOk_gauges (s : State) (e : EntryNo) : (s.writeOk e).gauges = s.gauges := by
  unfold State.writeOk
  split
  · exact (State.retrySucceeded_gauges ..).trans (State.gauges_of_fixed (s.written_fixed e))
  · rfl

theorem State.handFault_gauges (s : State) (k : FaultKind) (w : WinNo) (i : Nat) :
    (s.handFault k w i).gauges = s.gauges := by
  unfold State.handFault
  split <;> rfl

theorem State.strandingEffects_gauges (s : State) (k : FaultKind) (w : WinNo) (i : Nat) :
    (s.strandingEffects k w i).gauges = s.gauges := by
  refine (State.handFault_gauges ..).trans ?_
  unfold State.enterFault
  split
  case h_1 | h_2 => exact (State.gauges_of_fixed (State.snapshotFaulted_fixed _ w i) :)
  all_goals rfl

theorem State.fetchFailed_gauges (s : State) (e : EntryNo) : (s.fetchFailed e).gauges = s.gauges := by
  unfold State.fetchFailed
  split
  · rfl
  · split
    · exact (State.strandingEffects_gauges ..).trans (State.gauges_of_fixed (State.failWaiters_fixed s _ _) :)
    all_goals rfl

theorem State.writeFailed_gauges (s : State) (e : EntryNo) : (s.writeFailed e).gauges = s.gauges := by
  unfold State.writeFailed
  split
  · rfl
  · split
    · exact State.strandingEffects_gauges ..
    all_goals rfl

/-! ### Responses leave the parameters -/

theorem State.armingCheck_gauges (s : State) (w : WinNo) : (s.armingCheck w).gauges = s.gauges := by
  unfold State.armingCheck
  split <;> rfl

theorem State.passCompleted_gauges (s : State) (r : TagRecord) (id : UpId) (link : Nat) (ok : Bool) (data : BitVec 512) :
    (s.passCompleted r id link ok data).gauges = s.gauges := by
  unfold State.passCompleted
  dsimp only
  refine (foldl_keeps State.gauges _ (fun a w => State.armingCheck_gauges a w) _ _).trans ?_
  split <;> rfl

theorem State.destinationFailed_gauges (s : State) (k : SlotNo) : (s.destinationFailed k).gauges = s.gauges := by
  unfold State.destinationFailed
  split
  · rw [State.gauges_of_fixed (State.endCheck_fixed _), State.gauges_of_fixed (State.failSnapshot_fixed ..),
      State.handFault_gauges]
    rfl
  · rfl

theorem State.arrive_gauges (s : State) (g : Tag) (ok : Bool) (data : BitVec 512) :
    (s.arrive g ok data).gauges = s.gauges := by
  obtain ⟨-, h⟩ | ⟨r, -, ⟨id, link, -, h⟩ | ⟨e, -, h⟩ | ⟨k, -, h⟩⟩ := s.arrive_cases g ok data <;> rw [h]
  · exact State.passCompleted_gauges ..
  · unfold State.tableResponse
    repeat' split
    · rfl
    · exact State.fetchOk_gauges ..
    · exact State.fetchFailed_gauges ..
    · exact State.writeOk_gauges ..
    · exact State.writeFailed_gauges ..
  · unfold State.snapResponse
    repeat' split
    · rfl
    · exact (State.gauges_of_fixed (State.destinationWritten_fixed _ k) :)
    · exact State.destinationFailed_gauges ..

/-! ### Commands of the management port that leave the parameters -/

theorem withWindow_gauges {run : WinNo → Reply} (hrun : ∀ w, (run w).st.gauges = s.gauges) (w : BitVec 8) :
    (withWindow w s run).st.gauges = s.gauges := by
  unfold withWindow
  split
  · exact hrun _
  · rfl

theorem State.windowLoad_gauges (s : State) (a : LoadArgs) : (s.windowLoad a).st.gauges = s.gauges := by
  refine withWindow_gauges (fun w => ?_) a.window
  repeat' split
  all_goals rfl

theorem State.windowArm_gauges (s : State) (w : BitVec 8) : (s.windowArm w).st.gauges = s.gauges := by
  refine withWindow_gauges (fun w => ?_) w
  split
  case h_1 | h_2 => exact State.armingCheck_gauges _ w
  all_goals rfl

theorem State.windowDrain_gauges (s : State) (w : BitVec 8) : (s.windowDrain w).st.gauges = s.gauges := by
  refine withWindow_gauges (fun w => ?_) w
  repeat' split
  case isFalse.isFalse => exact (State.gauges_of_fixed (State.drainStart_fixed _ w) :)
  all_goals rfl

theorem State.windowRelease_gauges (s : State) (w : BitVec 8) : (s.windowRelease w).st.gauges = s.gauges := by
  refine withWindow_gauges (fun w => ?_) w
  split <;> rfl

theorem State.snapshotStart_gauges (s : State) (a : StartArgs) : (s.snapshotStart a).st.gauges = s.gauges := by
  refine withWindow_gauges (fun w => ?_) a.window
  dsimp only
  repeat' split
  case isFalse.isFalse.isFalse.isFalse => exact (State.gauges_of_fixed (State.walkStep_fixed _) :)
  all_goals rfl

theorem State.snapshotAbort_gauges (s : State) : s.snapshotAbort.st.gauges = s.gauges := by
  unfold State.snapshotAbort
  split
  · exact State.gauges_of_fixed ((State.endCheck_fixed _).trans (s.leaveRunning_fixed .aborted))
  all_goals rfl

theorem State.retryWindow_gauges (s : State) (w : BitVec 8) : (s.retryWindow w).st.gauges = s.gauges := by
  refine withWindow_gauges (fun w => ?_) w
  split
  · exact State.gauges_of_fixed (s.reenterAll_fixed w)
  · rfl

theorem State.discardWindow_gauges (s : State) (w : BitVec 8) : (s.discardWindow w).st.gauges = s.gauges := by
  refine withWindow_gauges (fun w => ?_) w
  repeat' split
  case isFalse.isFalse => exact (State.faultExit_gauges _ w).trans (State.gauges_of_fixed (s.freeEntries_fixed _))
  all_goals rfl

theorem State.flushAllCommand_gauges (s : State) : s.flushAllCommand.st.gauges = s.gauges := by
  unfold State.flushAllCommand
  split
  · rfl
  · exact (State.gauges_of_fixed (State.startFlushes_fixed ..) :)

theorem State.entryReadReply_gauges (s : State) (r : EntryRef) : (s.entryReadReply r).st.gauges = s.gauges := by
  cases r with
  | byNumber e => rfl
  | byCounter w i => exact withWindow_gauges (fun w => by split <;> rfl) w

theorem State.softResetFrame_gauges (s : State) : s.softResetFrame.gauges = s.gauges := by
  unfold State.softResetFrame State.softBegin
  dsimp only
  repeat' split
  all_goals rfl

theorem State.busyFrame_gauges (s : State) : s.busyFrame.gauges = s.gauges := by
  unfold State.busyFrame
  repeat' split
  all_goals rfl

end Sys2Proof.Machine
end

section
/-!
SUPPORT. What the PARAM SETs, the tick and the clock make of the parameters and the clock count (R94, R95, R98, R166, R179),
and that every command keeps them in range.
-/

namespace Sys2Proof.Machine

variable {s : State}

/-! ### The PARAM SETs (R94, R95, R98, R166, R179) -/

theorem State.setLowMark_inRange {v : BitVec 32} (h : v.toNat ≤ 128) (s : State) :
    s.setLowMark v = okay { s with lowMark := v.toNat } [] := if_pos h

theorem State.setLowMark_outOfRange {v : BitVec 32} (h : 128 < v.toNat) (s : State) :
    s.setLowMark v = refuse s .badArgument := if_neg (Nat.not_le.mpr h)

theorem State.setFlushAge_inRange {v : BitVec 32} (h : v.toNat ≤ 65535) (s : State) :
    s.setFlushAge v = okay { s with flushAge := v.toNat } [] := if_pos h

theorem State.setFlushAge_outOfRange {v : BitVec 32} (h : 65535 < v.toNat) (s : State) :
    s.setFlushAge v = refuse s .badArgument := if_neg (Nat.not_le.mpr h)

theorem State.setPrescaler_new {v : BitVec 32} (hlow : 1 ≤ v.toNat) (hhigh : v.toNat ≤ 65536)
    (hnew : v.toNat ≠ s.prescaler) : s.setPrescaler v = okay { s with prescaler := v.toNat, clock := 0 } [] :=
  (if_pos ⟨hlow, hhigh⟩).trans (if_neg hnew)

theorem State.setPrescaler_present {v : BitVec 32} (hlow : 1 ≤ v.toNat) (hhigh : v.toNat ≤ 65536)
    (hsame : v.toNat = s.prescaler) : s.setPrescaler v = okay s [] :=
  (if_pos ⟨hlow, hhigh⟩).trans (if_pos hsame)

theorem State.setPrescaler_outOfRange {v : BitVec 32} (h : v.toNat = 0 ∨ 65536 < v.toNat) (s : State) :
    s.setPrescaler v = refuse s .badArgument :=
  if_neg fun ⟨hlow, hhigh⟩ => by
    have hmax : v.toNat ≤ 65536 := hhigh
    omega

theorem State.setEnables_inRange {v : BitVec 32} (h : v.toNat ≤ 15) (s : State) :
    s.setEnables v = okay { s with enables := BitVec.ofNat 4 v.toNat } [] := if_pos h

theorem State.setEnables_outOfRange {v : BitVec 32} (h : 15 < v.toNat) (s : State) :
    s.setEnables v = refuse s .badArgument := if_neg (Nat.not_le.mpr h)

theorem State.setLowMark_paramsInRange (hs : s.paramsInRange) (v : BitVec 32) :
    (s.setLowMark v).st.paramsInRange := by
  rcases le_or_gt v.toNat 128 with hv | hv
  · rw [State.setLowMark_inRange hv]
    exact ⟨hv, hs.2⟩
  · rw [State.setLowMark_outOfRange hv]
    exact hs

theorem State.setFlushAge_paramsInRange (hs : s.paramsInRange) (v : BitVec 32) :
    (s.setFlushAge v).st.paramsInRange := by
  rcases le_or_gt v.toNat 65535 with hv | hv
  · rw [State.setFlushAge_inRange hv]
    obtain ⟨hmark, -, hrest⟩ := hs
    exact ⟨hmark, hv, hrest⟩
  · rw [State.setFlushAge_outOfRange hv]
    exact hs

/-- A new prescaler restarts the clock count, which is then below it. -/
theorem State.setPrescaler_paramsInRange (hs : s.paramsInRange) (v : BitVec 32) :
    (s.setPrescaler v).st.paramsInRange := by
  by_cases hv : 1 ≤ v.toNat ∧ v.toNat ≤ 65536
  · by_cases hsame : v.toNat = s.prescaler
    · rw [State.setPrescaler_present hv.1 hv.2 hsame]
      exact hs
    · rw [State.setPrescaler_new hv.1 hv.2 hsame]
      obtain ⟨hmark, hage, heffect, -⟩ := hs
      exact ⟨hmark, hage, heffect, hv.1, hv.2, hv.1⟩
  · rw [State.setPrescaler_outOfRange (by omega)]
    exact hs

/-! ### The tick, the clock and every command -/

theorem State.ticked_paramsInRange (hs : s.paramsInRange) : s.ticked.paramsInRange := by
  obtain ⟨hmark, hage, -, hlow, hhigh, -⟩ := hs
  exact ⟨hmark, hage, hage, hlow, hhigh, hlow⟩

theorem State.tickOnce_paramsInRange (hs : s.paramsInRange) : s.tickOnce.paramsInRange :=
  State.paramsInRange_of_gauges (State.gauges_of_fixed s.tickOnce_fixed) (State.ticked_paramsInRange hs)

theorem State.clockCycle_reset (h : s.rstAsserted = true) : s.clockCycle = s := if_pos h

theorem State.clockCycle_counts (h : s.rstAsserted = false) (hc : s.clock + 1 < s.prescaler) :
    s.clockCycle = { s with clock := s.clock + 1 } :=
  (if_neg (ne_true_of_eq_false h)).trans (if_pos hc)

theorem State.clockCycle_ticks (h : s.rstAsserted = false) (hc : s.prescaler ≤ s.clock + 1) :
    s.clockCycle = finish s s.tickOnce :=
  (if_neg (ne_true_of_eq_false h)).trans (if_neg (Nat.not_lt.mpr hc))

theorem State.clockCycle_paramsInRange (hs : s.paramsInRange) : s.clockCycle.paramsInRange := by
  cases hrst : s.rstAsserted with
  | true => rwa [State.clockCycle_reset hrst]
  | false =>
    rcases lt_or_ge (s.clock + 1) s.prescaler with hc | hc
    · rw [State.clockCycle_counts hrst hc]
      obtain ⟨hmark, hage, heffect, hlow, hhigh, -⟩ := hs
      exact ⟨hmark, hage, heffect, hlow, hhigh, hc⟩
    · rw [State.clockCycle_ticks hrst hc]
      exact finish_paramsInRange s (State.tickOnce_paramsInRange hs)

/-- A command taken that frees and changes nothing the rest of the part waits for. -/
theorem State.next_endFrame {t : State} {st : Status} {results : List Byte} (h : s.takesCommand = true) (code : Byte)
    (run : State → Reply) (hr : run s.counted = { st := t, status := st, results := results }) :
    (.next (s.endFrame code run) : Host.Outcome State Fault Refusal) = .next (t.answered code st results) :=
  congrArg _ (State.endFrame_reply h code run hr)

theorem State.endFrame_paramsInRange {run : State → Reply} (hs : s.paramsInRange)
    (hrun : ∀ u : State, u.paramsInRange → (run u).st.paramsInRange) (code : Byte) :
    (s.endFrame code run).paramsInRange := by
  cases h : s.takesCommand with
  | true =>
    rw [State.endFrame_taken h]
    exact hrun s.counted hs
  | false =>
    rw [State.endFrame_dropped h]
    exact hs

/-- Every command keeps the parameters in range. -/
theorem exec_paramsInRange (c : Instr) (hs : s.paramsInRange) : ∃ t, exec c s = .next t ∧ t.paramsInRange := by
  have hend : ∀ u : State, u.gauges = s.gauges → (finish s u).paramsInRange :=
    fun u hu => finish_paramsInRange s (State.paramsInRange_of_gauges hu hs)
  have hframe : ∀ code run, (∀ u : State, (run u).st.gauges = u.gauges) → (s.endFrame code run).paramsInRange :=
    fun code run hrun => State.endFrame_paramsInRange hs (fun u hu => State.paramsInRange_of_gauges (hrun u) hu) code
  cases c <;> refine ⟨_, rfl, ?_⟩
  case hardReset => exact resetMeetsInvariants.1
  case requestTaken | downstreamRequestAccepted | rstNReleased => exact hend _ rfl
  case holdSlotRetry => exact hend _ (State.gauges_of_fixed s.retryHold_fixed)
  case responseDelivery => exact hend _ (by unfold State.deliver; split <;> rfl)
  case downstreamGrant => exact hend _ (State.gauges_of_steady s.grant_keeps.1)
  case passThroughCompletion | fetchReturn | writeBackReturn | fetchError | writeBackError | destinationWriteReturn
      | destinationWriteError | tableResponseAbsorbed | snapResponseAbsorbed | orphanResponse =>
    exact hend _ (s.arrive_gauges ..)
  case windowBecomesActive w => exact hend _ (s.armingCheck_gauges w)
  case windowQuiesce w => exact hend _ (State.gauges_of_outer (s.drainCheck_outer w))
  case tickAdvance =>
    split
    · exact hs
    · exact finish_paramsInRange s (State.tickOnce_paramsInRange hs)
  case frameStart => exact State.paramsInRange_of_gauges (by unfold State.startFrame; split <;> rfl) hs
  case frameWithoutCommand | nop => exact hs
  case frameBusy => exact State.paramsInRange_of_gauges s.busyFrame_gauges hs
  case unassignedCommand | snapshotStatus | faultRead | alertPop | paramGet | mgmtStatus => exact hframe _ _ fun _ => rfl
  case windowLoad a => exact finish_paramsInRange s (hframe _ _ fun u => u.windowLoad_gauges a)
  case windowArm w => exact finish_paramsInRange s (hframe _ _ fun u => u.windowArm_gauges w)
  case windowDrain w => exact finish_paramsInRange s (hframe _ _ fun u => u.windowDrain_gauges w)
  case windowRelease w => exact finish_paramsInRange s (hframe _ _ fun u => u.windowRelease_gauges w)
  case windowStatus w => exact hframe _ _ fun u => withWindow_gauges (s := u) (fun _ => rfl) w
  case snapshotStart a => exact finish_paramsInRange s (hframe _ _ fun u => u.snapshotStart_gauges a)
  case snapshotAbort => exact finish_paramsInRange s (hframe _ _ State.snapshotAbort_gauges)
  case snapshotComplete => exact hend _ (State.gauges_of_fixed s.completionCheck_fixed)
  case snapshotEnd => exact hend _ (State.gauges_of_fixed s.endCheck_fixed)
  case walkRetry => exact hend _ (State.gauges_of_fixed s.retryWalk_fixed)
  case retry w => exact finish_paramsInRange s (hframe _ _ fun u => u.retryWindow_gauges w)
  case discard w => exact finish_paramsInRange s (hframe _ _ fun u => u.discardWindow_gauges w)
  case flushAll => exact finish_paramsInRange s (hframe _ _ State.flushAllCommand_gauges)
  case flushAllComplete => exact hend _ (State.gauges_of_outer s.flushAllCheck_outer)
  case paramSetLowMark v =>
    exact finish_paramsInRange s (State.endFrame_paramsInRange hs (fun _ hu => State.setLowMark_paramsInRange hu v) _)
  case paramSetFlushAge v => exact State.endFrame_paramsInRange hs (fun _ hu => State.setFlushAge_paramsInRange hu v) _
  case paramSetPrescaler v => exact State.endFrame_paramsInRange hs (fun _ hu => State.setPrescaler_paramsInRange hu v) _
  case paramSetEnables v => exact hframe _ _ fun u => by unfold State.setEnables; split <;> rfl
  case entryRead r => exact hframe _ _ fun u => u.entryReadReply_gauges r
  case softReset => exact hend _ s.softResetFrame_gauges
  case softResetClearing => exact hend _ (State.gauges_of_outer s.clearCheck_outer)
  case softResetEnd => exact hend _ (State.gauges_of_outer s.finishCheck_outer)

end Sys2Proof.Machine

open Sys2Proof Sys2Proof.Machine

/-- Settles O2, by the three cases of a clock cycle; the end of the tick's happening leaves the tick count, the clock count
and the flush age in effect (`finish_steady`). -/
theorem idleStepIsOneClock : Obligations.IdleStepIsOneClock := by
  intro s hp
  rw [step_idle hp]
  refine ⟨fun hrst => by rw [State.clockCycle_reset hrst], fun hrst hc => by rw [State.clockCycle_counts hrst hc],
    fun hrst hc => ⟨_, by rw [State.clockCycle_ticks hrst hc], ?_⟩⟩
  have hsteady : (finish s s.tickOnce).steady = s.ticked.steady :=
    (finish_steady s s.tickOnce).trans (State.steady_of_outer (State.outer_of_fixed s.tickOnce_fixed))
  simp only [State.steady, Prod.mk.injEq] at hsteady
  obtain ⟨-, -, htick, hclock, -, -, heffect, -⟩ := hsteady
  exact ⟨hclock, htick, heffect⟩

/-- Settles O54: each PARAM SET compares its value with the range, and the frame is answered with what it makes of it. -/
theorem parametersSet : Obligations.ParametersSet := by
  intro s v ht
  refine ⟨fun hv => ?_, fun hv => ?_, fun hv => ?_, fun hv => ?_, fun hlow hhigh hnew => ?_, fun hlow hhigh hsame => ?_,
    fun hv => ?_, fun hv => ?_, fun hv => ?_⟩
  · exact State.next_finish_endFrame ht _ _ (State.setLowMark_inRange hv _)
  · exact State.next_finish_endFrame ht _ _ (State.setLowMark_outOfRange hv _)
  · exact State.next_endFrame ht _ _ (State.setFlushAge_inRange hv _)
  · exact State.next_endFrame ht _ _ (State.setFlushAge_outOfRange hv _)
  · exact State.next_endFrame ht _ _ (State.setPrescaler_new (s := s.counted) hlow hhigh hnew)
  · exact State.next_endFrame ht _ _ (State.setPrescaler_present (s := s.counted) hlow hhigh hsame)
  · exact State.next_endFrame ht _ _ (State.setPrescaler_outOfRange hv _)
  · exact State.next_endFrame ht _ _ (State.setEnables_inRange hv _)
  · exact State.next_endFrame ht _ _ (State.setEnables_outOfRange hv _)

/-- Settles O55: of the commands only the PARAM SETs, the tick and a hard reset write a parameter (`State.gauges`), each a
value in its range, and the clock counts on only below the prescaler (`State.clockCycle_paramsInRange`). -/
theorem parametersStayInRange : Obligations.ParametersStayInRange := by
  intro s t hs hstep
  cases hp : s.pending with
  | nil =>
    rw [step_idle hp] at hstep
    cases hstep
    exact State.clockCycle_paramsInRange hs
  | cons c rest =>
    have hexec : exec c { s with pending := rest } = .next t := by
      unfold step at hstep
      rwa [hp] at hstep
    obtain ⟨u, hu, hrange⟩ := exec_paramsInRange (s := { s with pending := rest }) c hs
    rw [hexec] at hu
    cases hu
    exact hrange

end

section
/-!
SUPPORT. FLUSH ALL (R106, R108): the entries it marks, its carry set, and its completion.
-/

namespace Sys2Proof.Machine

variable {s : State} {e : EntryNo} {x : Entry}

/-- FLUSH ALL in progress, with its marks and its carry set, before the flushes of the dirty list (R106, steps 1 to 3). -/
def State.flushAllMarked (s : State) : State :=
  { s with
    flushAllDone := false
    flushAllRunning := true
    entries := s.entries.map (Option.map (fun x : Entry => { x with flushAll := x.flushAll || x.body.flushMarked }))
    carry := (List.finRange 256).filter s.carried }

theorem State.entry_flushAllMarked (s : State) (e : EntryNo) : s.flushAllMarked.entry e =
    (s.entry e).map (fun x => { x with flushAll := x.flushAll || x.body.flushMarked }) :=
  Vector.getElem_map ..

theorem Body.flushMarked_eq (b : Body) : b.flushMarked = match b with
    | .accum _ _ | .fetch _ _ _ | .write _ _ => true
    | .held _ d => d
    | .strandedFetch _ _ _ | .strandedWrite _ => false := by
  cases b with
  | held v d => cases d <;> rfl
  | accum | fetch | write | strandedFetch | strandedWrite => rfl

/-- A carried entry is in WRITE with its redirty mark, and holds its tag (R106, step 3). -/
theorem State.carried_iff : s.carried e = true ↔
    ∃ x v, s.entry e = some x ∧ x.body = .write v true ∧ (s.tagOf e).isSome = true := by
  unfold State.carried
  cases s.entry e with
  | none => simp
  | some x =>
    dsimp only
    split <;> simp [*]

theorem State.mem_carry_flushAllMarked : e ∈ s.flushAllMarked.carry ↔ s.carried e = true := by
  simp [State.flushAllMarked]

theorem State.flushAllCommand_running (h : s.flushAllRunning = true) : s.flushAllCommand = refuse s .conflict := if_pos h

theorem State.flushAllCommand_starts (h : s.flushAllRunning = false) :
    s.flushAllCommand = okay (s.flushAllMarked.startFlushes s.dirty) [] :=
  if_neg (ne_true_of_eq_false h)

theorem State.flushAllCheck_of_due (h : s.flushAllDue) :
    s.flushAllCheck = { s with flushAllRunning := false, flushAllDone := true } := by
  obtain ⟨hrun, hmark, hcarry⟩ := h
  refine if_pos ?_
  simp [hrun, hmark, hcarry]

/-- FLUSH ALL is over where no entry has a mark and the carry set is empty (R108). -/
theorem State.flushAllDue_iff : s.flushAllDue ↔
    s.flushAllRunning = true ∧ (∀ e x, s.entry e = some x → x.flushAll = false) ∧ s.carry = [] := by
  rw [State.flushAllDue, ← Bool.not_eq_true, State.anyFlushMark_iff]
  simp

theorem exec_flushAllComplete (s : State) : exec .flushAllComplete s = .next (finish s s.flushAllCheck) := rfl

end Sys2Proof.Machine

open Sys2Proof Sys2Proof.Machine

/-- Settles O53: a FLUSH ALL taken marks the entries and flushes the dirty list (`State.flushAllMarked`), and its completion
waits for the last mark and the carry set (`State.flushAllDue_iff`). -/
theorem flushAllRuns : Obligations.FlushAllRuns := by
  refine ⟨fun s ht => ⟨fun hrun => ?_, fun hrun => ?_⟩, fun s => ⟨fun hdue => ?_, fun hdue => ?_⟩⟩
  · exact State.next_finish_endFrame ht _ _ (State.flushAllCommand_running (s := s.counted) hrun)
  · refine ⟨s.counted.flushAllMarked, ?_, rfl, fun e => ?_, fun e => ?_⟩
    · exact State.next_finish_endFrame ht _ _ (State.flushAllCommand_starts (s := s.counted) hrun)
    · rw [State.entry_flushAllMarked, show s.counted.entry e = s.entry e from rfl]
      refine ⟨fun hx => by rw [hx]; rfl, fun x hx => ?_⟩
      rw [hx]
      exact congrArg (fun b => some { x with flushAll := x.flushAll || b }) x.body.flushMarked_eq
    · rw [State.mem_carry_flushAllMarked, State.carried_iff]
      rfl
  · rw [exec_flushAllComplete, State.flushAllCheck_of_due (State.flushAllDue_iff.mpr hdue)]
  · rw [exec_flushAllComplete, State.flushAllCheck_of_not_due (mt State.flushAllDue_iff.mp hdue)]

end

section
/-!
SUPPORT. The tags by count (R114 to R116): what taking and freeing one tag makes of the counts, and of the reservations that
the free tags cover.
-/

namespace Sys2Proof.Machine

variable {s t : State} {g : Tag}

/-! ### Counts of tags (R114) -/

theorem State.tags_toList (s : State) : s.tags.toList = (List.finRange 32).map s.tagAt :=
  List.ext_getElem (by simp) fun n h1 h2 => by simp [State.tagAt]

/-- The tags of a kind where one tag's record is rewritten. -/
theorem State.countP_setTag (s : State) (g : Tag) (o : Option TagRecord) (p : Option TagRecord → Bool) :
    (s.setTag g o).tags.toList.countP p + (if p (s.tagAt g) then 1 else 0) =
      s.tags.toList.countP p + if p o then 1 else 0 := by
  have hlt : g.val < s.tags.toList.length := by simp
  have hget : s.tags.toList[g.val] = s.tagAt g := by simp [State.tagAt]
  have hle := List.boole_getElem_le_countP (p := p) (l := s.tags.toList) hlt
  rw [hget] at hle
  rw [State.setTag, Vector.toList_set, List.countP_set hlt, hget]
  omega

theorem State.freeTags_setTag (s : State) (g : Tag) (o : Option TagRecord) :
    (s.setTag g o).freeTags + (if (s.tagAt g).isNone then 1 else 0) = s.freeTags + if o.isNone then 1 else 0 :=
  s.countP_setTag g o Option.isNone

theorem State.tagsOf_setTag (s : State) (g : Tag) (o : Option TagRecord) (c : Claimant) :
    (s.setTag g o).tagsOf c + (if heldBy c (s.tagAt g) then 1 else 0) = s.tagsOf c + if heldBy c o then 1 else 0 :=
  s.countP_setTag g o (heldBy c)

@[simp] theorem heldBy_none (c : Claimant) : heldBy c none = false := rfl

@[simp] theorem heldBy_some (c : Claimant) (r : TagRecord) : heldBy c (some r) = decide (r.owner.claimant = c) := rfl

/-- A tag is free, or one claimant's. -/
theorem heldBy_partition (o : Option TagRecord) :
    (if o.isNone then 1 else 0) + (if heldBy .pass o then 1 else 0) + (if heldBy .table o then 1 else 0) +
      (if heldBy .snap o then 1 else 0) = 1 := by
  cases o with
  | none => rfl
  | some r => cases hc : r.owner.claimant <;> simp [hc]

theorem countP_heldBy (l : List (Option TagRecord)) :
    l.countP Option.isNone + l.countP (heldBy .pass) + l.countP (heldBy .table) + l.countP (heldBy .snap) =
      l.length := by
  induction l with
  | nil => rfl
  | cons o os ih =>
    have hpart := heldBy_partition o
    simp only [List.countP_cons, List.length_cons]
    omega

/-- The 32 tags are free or one claimant's each. -/
theorem State.tags_partition (s : State) :
    s.freeTags + s.tagsOf .pass + s.tagsOf .table + s.tagsOf .snap = 32 :=
  (countP_heldBy s.tags.toList).trans (by simp)

/-! ### Reservations (R116) -/

/-- The reservations in numbers: 4 tags for the table, 2 for the snapshot engine. -/
theorem State.reservesCovered_iff :
    s.reservesCovered ↔ (4 - s.tagsOf .table) + (2 - s.tagsOf .snap) ≤ s.freeTags := Iff.rfl

theorem State.admissible_pass_iff :
    s.admissible .pass = true ↔ 1 + ((4 - s.tagsOf .table) + (2 - s.tagsOf .snap)) ≤ s.freeTags := decide_eq_true_iff

theorem State.admissible_table_iff : s.admissible .table = true ↔ 1 + (2 - s.tagsOf .snap) ≤ s.freeTags := by
  rw [← Nat.zero_add (2 - s.tagsOf .snap)]
  exact decide_eq_true_iff

theorem State.admissible_snap_iff : s.admissible .snap = true ↔ 1 + (4 - s.tagsOf .table) ≤ s.freeTags := by
  rw [← Nat.zero_add (4 - s.tagsOf .table)]
  exact decide_eq_true_iff

theorem State.reservesCovered_of_tags (h : t.tags = s.tags) (hs : s.reservesCovered) : t.reservesCovered := by
  simpa only [State.reservesCovered_iff, State.tagsOf, State.freeTags, h] using hs

/-- A tag that comes free adds at least as much to the free tags as to the unused reservations. -/
theorem State.setTag_none_reservesCovered (hs : s.reservesCovered) (g : Tag) : (s.setTag g none).reservesCovered := by
  have hfree := s.freeTags_setTag g none
  have htable := s.tagsOf_setTag g none .table
  have hsnap := s.tagsOf_setTag g none .snap
  have hpart := heldBy_partition (s.tagAt g)
  simp only [Option.isNone_none, heldBy_none, if_true, Bool.false_eq_true, if_false] at hfree htable hsnap
  rw [State.reservesCovered_iff] at hs ⊢
  omega

/-- Taking a tag that is admissible for its claimant leaves the reservations covered. -/
theorem State.setTag_some_reservesCovered {r : TagRecord} (hs : s.reservesCovered) (hg : s.tagAt g = none)
    (ha : s.admissible r.owner.claimant = true) : (s.setTag g (some r)).reservesCovered := by
  have hfree := s.freeTags_setTag g (some r)
  have htable := s.tagsOf_setTag g (some r) .table
  have hsnap := s.tagsOf_setTag g (some r) .snap
  simp only [hg, Option.isNone_none, Option.isNone_some, heldBy_none, heldBy_some, decide_eq_true_eq, if_true,
    Bool.false_eq_true, if_false] at hfree htable hsnap
  rw [State.reservesCovered_iff] at hs ⊢
  cases hc : r.owner.claimant with
  | pass =>
    rw [hc, State.admissible_pass_iff] at ha
    simp only [hc, reduceCtorEq, if_false] at htable hsnap
    omega
  | table =>
    rw [hc, State.admissible_table_iff] at ha
    simp only [hc, reduceCtorEq, if_true, if_false] at htable hsnap
    omega
  | snap =>
    rw [hc, State.admissible_snap_iff] at ha
    simp only [hc, reduceCtorEq, if_true, if_false] at htable hsnap
    omega

/-- Pass-through leaves the table its 4 tags and the snapshot engine its 2 (R114). -/
theorem State.tagsOf_pass_le (hs : s.reservesCovered) : s.tagsOf .pass ≤ 26 := by
  have htotal := s.tags_partition
  rw [State.reservesCovered_iff] at hs
  omega

/-! ### Grants (R116, R120) -/

/-- From `s` to `t` tag `g` is taken for claimant `c`, if at all, and no other tag changes. -/
def State.TakesAtMost (s t : State) (g : Tag) (c : Claimant) : Prop :=
  t.tags = s.tags ∨ ∃ r : TagRecord, r.owner.claimant = c ∧ t.tags = (s.setTag g (some r)).tags

theorem State.grantPass_takes (s : State) (g : Tag) : s.TakesAtMost (s.grantPass g) g .pass := by
  cases hc : s.channel with
  | nil => exact .inl (by simp only [State.grantPass, hc])
  | cons r rest =>
    rw [State.grantPass_head hc]
    exact .inr ⟨_, rfl, rfl⟩

theorem State.grantTable_takes (s : State) (g : Tag) : s.TakesAtMost (s.grantTable g) g .table := by
  unfold State.grantTable
  split
  · exact .inl rfl
  · rename_i e rest hi
    split
    · exact .inl rfl
    · rename_i x hx
      dsimp only
      split
      case h_1 d m q hb => exact .inr ⟨⟨.table e, _, _, _⟩, rfl, rfl⟩
      case h_2 v r hb =>
        rw [State.writeGranted, State.mapEntry]
        split <;> exact .inr ⟨⟨.table e, _, _, _⟩, rfl, rfl⟩
      all_goals exact .inl rfl

theorem State.grantSnap_takes (s : State) (g : Tag) : s.TakesAtMost (s.grantSnap g) g .snap := by
  unfold State.grantSnap
  split
  · rename_i k rest b ho hb
    split
    · exact .inr ⟨⟨.snap k, _, _, _⟩, rfl, rfl⟩
    all_goals exact .inl rfl
  · exact .inl rfl

/-- A grant takes a free tag for a claimant whose claim is eligible, or no tag at all. -/
theorem State.grant_reservesCovered (hs : s.reservesCovered) : s.grant.reservesCovered := by
  rcases s.grant_cases with h | ⟨c, g, hc, hg, h⟩
  · rwa [h]
  · have hel := State.chosen_eligible hc
    simp only [State.eligible, Bool.and_eq_true] at hel
    have htakes : s.TakesAtMost s.grant g c := by
      rw [h]
      cases c with
      | pass => exact State.grantPass_takes _ g
      | table => exact State.grantTable_takes _ g
      | snap => exact State.grantSnap_takes _ g
    obtain hsame | ⟨r, rfl, htags⟩ := htakes
    · exact State.reservesCovered_of_tags hsame hs
    · exact State.reservesCovered_of_tags htags
        (State.setTag_some_reservesCovered hs (State.lowestTag_free hg) hel.2)

end Sys2Proof.Machine
end

section
/-!
SUPPORT. The tags change by a grant, by a response's arrival and by a hard reset alone: every other operation leaves them as
they are (`…_tags`).
-/

namespace Sys2Proof.Machine

variable {s t : State}

theorem State.tags_of_outer (h : t.outer = s.outer) : t.tags = s.tags :=
  congrArg Prod.fst (State.downstream_of_outer h)

theorem State.tags_of_fixed (h : t.fixed = s.fixed) : t.tags = s.tags :=
  State.tags_of_outer (State.outer_of_fixed h)

/-! ### What a response does once its tag is free -/

theorem State.armingCheck_outer (s : State) (w : WinNo) : (s.armingCheck w).outer = s.outer := by
  unfold State.armingCheck
  split <;> rfl

theorem State.faultExit_outer (s : State) (w : WinNo) : (s.faultExit w).outer = s.outer := by
  unfold State.faultExit
  split
  · split
    · split
      · rfl
      · exact (State.outer_of_fixed (State.drainStart_fixed _ w)).trans (s.setWinState_outer w _)
    · rfl
  all_goals rfl

theorem State.retrySucceeded_outer (s : State) (x : Entry) : (s.retrySucceeded x).outer = s.outer := by
  unfold State.retrySucceeded
  split
  · exact s.faultExit_outer _
  · rfl

theorem State.fetchOk_outer (s : State) (e : EntryNo) (m : Nat) : (s.fetchOk e m).outer = s.outer := by
  unfold State.fetchOk
  split
  · exact (State.retrySucceeded_outer ..).trans (State.outer_of_fixed (s.fetched_fixed e m))
  · rfl

theorem State.writeOk_outer (s : State) (e : EntryNo) : (s.writeOk e).outer = s.outer := by
  unfold State.writeOk
  split
  · exact (State.retrySucceeded_outer ..).trans (State.outer_of_fixed (s.written_fixed e))
  · rfl

theorem State.handFault_outer (s : State) (k : FaultKind) (w : WinNo) (i : Nat) : (s.handFault k w i).outer = s.outer := by
  unfold State.handFault
  split <;> rfl

theorem State.strandingEffects_outer (s : State) (k : FaultKind) (w : WinNo) (i : Nat) :
    (s.strandingEffects k w i).outer = s.outer := by
  refine (State.handFault_outer ..).trans ?_
  unfold State.enterFault
  split
  case h_1 | h_2 => exact (State.outer_of_fixed (State.snapshotFaulted_fixed _ w i)).trans (s.setWinState_outer w _)
  all_goals rfl

theorem State.fetchFailed_outer (s : State) (e : EntryNo) : (s.fetchFailed e).outer = s.outer := by
  unfold State.fetchFailed
  split
  · rfl
  · split
    · exact (State.strandingEffects_outer ..).trans (State.outer_of_fixed (State.failWaiters_fixed s _ _) :)
    all_goals rfl

theorem State.writeFailed_outer (s : State) (e : EntryNo) : (s.writeFailed e).outer = s.outer := by
  unfold State.writeFailed
  split
  · rfl
  · split
    · exact State.strandingEffects_outer ..
    all_goals rfl

theorem State.passCompleted_outer (s : State) (r : TagRecord) (id : UpId) (link : Nat) (ok : Bool) (data : BitVec 512) :
    (s.passCompleted r id link ok data).outer = s.outer := by
  unfold State.passCompleted
  dsimp only
  refine (foldl_keeps State.outer _ State.armingCheck_outer _ _).trans ?_
  split <;> rfl

theorem State.tableResponse_outer (s : State) (r : TagRecord) (e : EntryNo) (ok : Bool) (data : BitVec 512) :
    (s.tableResponse r e ok data).outer = s.outer := by
  unfold State.tableResponse
  repeat' split
  · rfl
  · exact s.fetchOk_outer e _
  · exact s.fetchFailed_outer e
  · exact s.writeOk_outer e
  · exact s.writeFailed_outer e

theorem State.destinationFailed_outer (s : State) (k : SlotNo) : (s.destinationFailed k).outer = s.outer := by
  unfold State.destinationFailed
  split
  · rw [State.outer_of_fixed (State.endCheck_fixed _), State.outer_of_fixed (State.failSnapshot_fixed ..),
      State.handFault_outer]
    rfl
  · rfl

theorem State.snapResponse_outer (s : State) (k : SlotNo) (ok : Bool) : (s.snapResponse k ok).outer = s.outer := by
  unfold State.snapResponse
  repeat' split
  · rfl
  · exact State.outer_of_fixed (s.destinationWritten_fixed k)
  · exact s.destinationFailed_outer k

/-- An arrival frees the tag it came with, where that tag is in use, and no other tag changes (R113, R115). -/
theorem State.arrive_tags (s : State) (g : Tag) (ok : Bool) (data : BitVec 512) :
    (s.arrive g ok data).tags = s.tags ∨ (s.arrive g ok data).tags = (s.setTag g none).tags := by
  obtain ⟨-, h⟩ | ⟨r, -, ⟨id, link, -, h⟩ | ⟨e, -, h⟩ | ⟨k, -, h⟩⟩ := s.arrive_cases g ok data <;> rw [h]
  · exact .inl rfl
  · exact .inr (State.tags_of_outer (State.passCompleted_outer ..))
  · exact .inr (State.tags_of_outer (State.tableResponse_outer ..))
  · exact .inr (State.tags_of_outer (State.snapResponse_outer ..))

/-! ### Frames and commands -/

theorem withWindow_tags {run : WinNo → Reply} (hrun : ∀ w, (run w).st.tags = s.tags) (w : BitVec 8) :
    (withWindow w s run).st.tags = s.tags := by
  unfold withWindow
  split
  · exact hrun _
  · rfl

theorem State.endFrame_tags {run : State → Reply} (hrun : ∀ u : State, (run u).st.tags = u.tags) (s : State) (code : Byte) :
    (s.endFrame code run).tags = s.tags := by
  cases h : s.takesCommand with
  | true =>
    rw [State.endFrame_taken h]
    exact hrun s.counted
  | false =>
    rw [State.endFrame_dropped h]
    rfl

theorem State.windowLoad_tags (s : State) (a : LoadArgs) : (s.windowLoad a).st.tags = s.tags := by
  refine withWindow_tags (fun w => ?_) a.window
  repeat' split
  all_goals rfl

theorem State.windowArm_tags (s : State) (w : BitVec 8) : (s.windowArm w).st.tags = s.tags := by
  refine withWindow_tags (fun w => ?_) w
  split
  case h_1 | h_2 => exact State.tags_of_outer (State.armingCheck_outer (s.setWinState w .arming) w)
  all_goals rfl

theorem State.windowDrain_tags (s : State) (w : BitVec 8) : (s.windowDrain w).st.tags = s.tags := by
  refine withWindow_tags (fun w => ?_) w
  repeat' split
  case isFalse.isFalse => exact (State.tags_of_fixed (State.drainStart_fixed _ w) :)
  all_goals rfl

theorem State.windowRelease_tags (s : State) (w : BitVec 8) : (s.windowRelease w).st.tags = s.tags := by
  refine withWindow_tags (fun w => ?_) w
  split <;> rfl

theorem State.snapshotStart_tags (s : State) (a : StartArgs) : (s.snapshotStart a).st.tags = s.tags := by
  refine withWindow_tags (fun w => ?_) a.window
  dsimp only
  repeat' split
  case isFalse.isFalse.isFalse.isFalse => exact (State.tags_of_fixed (State.walkStep_fixed _) :)
  all_goals rfl

theorem State.snapshotAbort_tags (s : State) : s.snapshotAbort.st.tags = s.tags := by
  unfold State.snapshotAbort
  split
  · exact State.tags_of_fixed ((State.endCheck_fixed _).trans (s.leaveRunning_fixed .aborted))
  all_goals rfl

theorem State.retryWindow_tags (s : State) (w : BitVec 8) : (s.retryWindow w).st.tags = s.tags := by
  refine withWindow_tags (fun w => ?_) w
  split
  · exact State.tags_of_fixed (s.reenterAll_fixed w)
  · rfl

theorem State.discardWindow_tags (s : State) (w : BitVec 8) : (s.discardWindow w).st.tags = s.tags := by
  refine withWindow_tags (fun w => ?_) w
  repeat' split
  case isFalse.isFalse =>
    exact (State.tags_of_outer (State.faultExit_outer _ w)).trans (State.tags_of_fixed (s.freeEntries_fixed _))
  all_goals rfl

theorem State.flushAllCommand_tags (s : State) : s.flushAllCommand.st.tags = s.tags := by
  unfold State.flushAllCommand
  split
  · rfl
  · exact (State.tags_of_fixed (State.startFlushes_fixed ..) :)

theorem State.setPrescaler_tags (s : State) (v : BitVec 32) : (s.setPrescaler v).st.tags = s.tags := by
  unfold State.setPrescaler
  repeat' split
  all_goals rfl

theorem State.entryReadReply_tags (s : State) (r : EntryRef) : (s.entryReadReply r).st.tags = s.tags := by
  cases r with
  | byNumber e => rfl
  | byCounter w i => exact withWindow_tags (fun w => by split <;> rfl) w

theorem State.softResetFrame_tags (s : State) : s.softResetFrame.tags = s.tags := by
  unfold State.softResetFrame State.softBegin
  dsimp only
  repeat' split
  all_goals rfl

theorem State.busyFrame_tags (s : State) : s.busyFrame.tags = s.tags := by
  unfold State.busyFrame
  repeat' split
  all_goals rfl

end Sys2Proof.Machine
end

section
/-!
SUPPORT. The reservations through the end of a happening, a clock cycle and every command (R116).
-/

namespace Sys2Proof.Machine

variable {s t : State}

theorem State.nextHappening_reservesCovered (hs : s.reservesCovered) (h : s.nextHappening = some t) :
    t.reservesCovered := by
  have hcount : ({ s with choice := s.choice + 1 } : State).reservesCovered := State.reservesCovered_of_tags rfl hs
  have htake : ∀ {u v : State}, u.reservesCovered → u.takeHead = some v → v.reservesCovered :=
    fun hu hv => State.reservesCovered_of_tags (State.tags_of_outer (State.takeHead_outer _ hv)) hu
  rcases State.nextHappening_cases h with ⟨ht, -⟩ | ⟨-, -, rfl⟩ | ⟨-, ht | rfl⟩
  · exact htake hs ht
  · exact State.grant_reservesCovered hs
  · exact htake hcount ht
  · exact State.grant_reservesCovered hcount

theorem finish_reservesCovered (a : State) (hs : s.reservesCovered) : (finish a s).reservesCovered := by
  have hsettle : ∀ a b : State, b.reservesCovered → (settle a b).reservesCovered :=
    fun a b hb => State.reservesCovered_of_tags (State.tags_of_outer (settle_outer a b)) hb
  exact follow_induct (P := State.reservesCovered)
    (fun u t hu ht => hsettle u t (State.nextHappening_reservesCovered hu ht)) _ _ (hsettle a s hs)

theorem State.arrive_reservesCovered (hs : s.reservesCovered) (g : Tag) (ok : Bool) (data : BitVec 512) :
    (s.arrive g ok data).reservesCovered := by
  rcases s.arrive_tags g ok data with h | h
  · exact State.reservesCovered_of_tags h hs
  · exact State.reservesCovered_of_tags h (State.setTag_none_reservesCovered hs g)

theorem State.tickOnce_tags (s : State) : s.tickOnce.tags = s.tags :=
  (State.tags_of_fixed s.tickOnce_fixed).trans rfl

theorem State.clockCycle_reservesCovered (hs : s.reservesCovered) : s.clockCycle.reservesCovered := by
  unfold State.clockCycle
  repeat' split
  · exact hs
  · exact State.reservesCovered_of_tags rfl hs
  · exact finish_reservesCovered _ (State.reservesCovered_of_tags s.tickOnce_tags hs)

theorem State.hardReset_reservesCovered (s : State) : s.hardReset.reservesCovered :=
  State.reservesCovered_of_tags (s := State.reset) rfl resetMeetsInvariants.2.2.1

/-- Every command keeps the reservations covered: a grant and an arrival by their own rules, a hard reset with every tag
free, and any other command by leaving the tags. -/
theorem exec_reservesCovered (c : Instr) (hs : s.reservesCovered) : ∃ t, exec c s = .next t ∧ t.reservesCovered := by
  have hkeep : ∀ u : State, u.tags = s.tags → u.reservesCovered := fun u hu => State.reservesCovered_of_tags hu hs
  have hend : ∀ u : State, u.tags = s.tags → (finish s u).reservesCovered :=
    fun u hu => finish_reservesCovered s (hkeep u hu)
  have hframe : ∀ code run, (∀ u : State, (run u).st.tags = u.tags) → (s.endFrame code run).tags = s.tags :=
    fun code run hrun => State.endFrame_tags hrun s code
  cases c <;> refine ⟨_, rfl, ?_⟩
  case hardReset => exact s.hardReset_reservesCovered
  case downstreamGrant => exact finish_reservesCovered s (State.grant_reservesCovered hs)
  case passThroughCompletion | fetchReturn | writeBackReturn | fetchError | writeBackError | destinationWriteReturn
      | destinationWriteError | tableResponseAbsorbed | snapResponseAbsorbed | orphanResponse =>
    exact finish_reservesCovered s (State.arrive_reservesCovered hs ..)
  case requestTaken | downstreamRequestAccepted | rstNReleased => exact hend _ rfl
  case holdSlotRetry => exact hend _ (State.tags_of_fixed s.retryHold_fixed)
  case responseDelivery => exact hend _ (by unfold State.deliver; split <;> rfl)
  case windowBecomesActive w => exact hend _ (State.tags_of_outer (s.armingCheck_outer w))
  case windowQuiesce w => exact hend _ (State.tags_of_outer (s.drainCheck_outer w))
  case tickAdvance =>
    split
    · exact hs
    · exact hend _ s.tickOnce_tags
  case frameStart => exact hkeep _ (by unfold State.startFrame; split <;> rfl)
  case frameWithoutCommand | nop => exact hs
  case frameBusy => exact hkeep _ s.busyFrame_tags
  case unassignedCommand | snapshotStatus | faultRead | alertPop | paramGet | mgmtStatus =>
    exact hkeep _ (hframe _ _ fun _ => rfl)
  case windowLoad a => exact hend _ (hframe _ _ fun u => u.windowLoad_tags a)
  case windowArm w => exact hend _ (hframe _ _ fun u => u.windowArm_tags w)
  case windowDrain w => exact hend _ (hframe _ _ fun u => u.windowDrain_tags w)
  case windowRelease w => exact hend _ (hframe _ _ fun u => u.windowRelease_tags w)
  case windowStatus w => exact hkeep _ (hframe _ _ fun u => withWindow_tags (s := u) (fun _ => rfl) w)
  case snapshotStart a => exact hend _ (hframe _ _ fun u => u.snapshotStart_tags a)
  case snapshotAbort => exact hend _ (hframe _ _ State.snapshotAbort_tags)
  case snapshotComplete => exact hend _ (State.tags_of_fixed s.completionCheck_fixed)
  case snapshotEnd => exact hend _ (State.tags_of_fixed s.endCheck_fixed)
  case walkRetry => exact hend _ (State.tags_of_fixed s.retryWalk_fixed)
  case retry w => exact hend _ (hframe _ _ fun u => u.retryWindow_tags w)
  case discard w => exact hend _ (hframe _ _ fun u => u.discardWindow_tags w)
  case flushAll => exact hend _ (hframe _ _ State.flushAllCommand_tags)
  case flushAllComplete => exact hend _ (State.tags_of_outer s.flushAllCheck_outer)
  case paramSetLowMark v => exact hend _ (hframe _ _ fun u => by unfold State.setLowMark; split <;> rfl)
  case paramSetFlushAge v => exact hkeep _ (hframe _ _ fun u => by unfold State.setFlushAge; split <;> rfl)
  case paramSetPrescaler v => exact hkeep _ (hframe _ _ fun u => u.setPrescaler_tags v)
  case paramSetEnables v => exact hkeep _ (hframe _ _ fun u => by unfold State.setEnables; split <;> rfl)
  case entryRead r => exact hkeep _ (hframe _ _ fun u => u.entryReadReply_tags r)
  case softReset => exact hend _ s.softResetFrame_tags
  case softResetClearing => exact hend _ (State.tags_of_outer s.clearCheck_outer)
  case softResetEnd => exact hend _ (State.tags_of_outer s.finishCheck_outer)

end Sys2Proof.Machine

open Sys2Proof Sys2Proof.Machine

/-- Settles O34: a tag is taken only where it is admissible for its claimant (`State.setTag_some_reservesCovered`), a tag that
comes free only helps (`State.setTag_none_reservesCovered`), and the bound of 26 is what the reservations leave of 32. -/
theorem reservationsKept : Obligations.ReservationsKept := by
  refine ⟨fun s t hs hstep => ?_, fun s => State.tagsOf_pass_le⟩
  cases hp : s.pending with
  | nil =>
    rw [step_idle hp] at hstep
    cases hstep
    exact State.clockCycle_reservesCovered hs
  | cons c rest =>
    have hexec : exec c { s with pending := rest } = .next t := by
      unfold step at hstep
      rwa [hp] at hstep
    obtain ⟨u, hu, hcovered⟩ := exec_reservesCovered (s := { s with pending := rest }) c hs
    rw [hexec] at hu
    cases hu
    exact hcovered

end

section
/-!
SUPPORT. The claims of the memory port in words, and the arbiter's choice along its rotation (R114 to R119).
-/

namespace Sys2Proof.Machine

variable {s : State}

/-! ### Counts by entry and tag (R63, R114) -/

theorem State.freeTags_eq : s.freeTags = ((List.finRange 32).filter (fun g => (s.tagAt g).isNone)).length := by
  rw [State.freeTags, State.tags_toList, List.countP_map, List.countP_eq_length_filter]
  rfl

/-- The tags of a claimant are those whose owner is one of its own. -/
theorem State.tagsOf_eq {c : Claimant} {which : Owner → Bool} (h : ∀ o, which o = decide (o.claimant = c)) :
    s.tagsOf c = s.tagsWith which := by
  rw [State.tagsOf, State.tags_toList, List.countP_map, List.countP_eq_length_filter, State.tagsWith]
  refine congrArg List.length (List.filter_congr fun g _ => ?_)
  rw [Function.comp_apply]
  cases s.tagAt g with
  | none => rfl
  | some r => exact (h r.owner).symm

theorem State.freeCount_eq : s.freeCount = ((List.finRange 256).filter (fun e => (s.entry e).isNone)).length := by
  rw [State.freeCount, State.entries_toList, List.countP_map, List.countP_eq_length_filter]
  rfl

/-- The table is under pressure where its FREE and clean entries are fewer than the low mark (R100). -/
theorem State.pressure_iff : s.pressure = true ↔
    ((List.finRange 256).filter (fun e => (s.entry e).isNone)).length + s.clean.length < s.lowMark := by
  rw [← State.freeCount_eq]
  exact decide_eq_true_iff

/-! ### Claims (R117) -/

/-- PASS presents the channel's head where it is outside and may be taken (R43). -/
theorem State.claims_pass_iff : s.claims .pass = true ↔ ∃ r rest, s.channel = r :: rest ∧
    classify s.windows r = .outside ∧ (s.list r.id).records.length < 8 ∧ s.hold = none ∧ s.softRunning = false ∧
      s.rstAsserted = false := by
  rw [State.claims, State.passClaim]
  cases s.channel with
  | nil => simp
  | cons r rest => simp [State.mayTake_iff, and_comm]

/-- TABLE presents the issue queue's head, an entry in FETCH or WRITE. -/
theorem State.claims_table_iff : s.claims .table = true ↔ ∃ e rest x, s.issue = e :: rest ∧ s.entry e = some x ∧
    ((∃ d m q, x.body = .fetch d m q) ∨ ∃ v m, x.body = .write v m) := by
  rw [State.claims, State.tableClaim]
  cases hi : s.issue with
  | nil => simp
  | cons e rest =>
    cases hx : s.entry e with
    | none => simp [hx]
    | some x =>
      cases hb : x.body with
      | fetch d m q => exact iff_of_true (by simp [hx, hb]) ⟨e, rest, x, rfl, hx, .inl ⟨d, m, q, hb⟩⟩
      | write v m => exact iff_of_true (by simp [hx, hb]) ⟨e, rest, x, rfl, hx, .inr ⟨v, m, hb⟩⟩
      | _ => simp [hx, hb]

/-- SNAP presents the write order's head, a CAPTURED slot. -/
theorem State.claims_snap_iff : s.claims .snap = true ↔ ∃ k rest b j v, s.snap.writeOrder = k :: rest ∧
    s.snap.job = some b ∧ s.slot k = .captured j v := by
  rw [State.claims, State.snapClaim]
  cases ho : s.snap.writeOrder with
  | nil => simp
  | cons k rest =>
    cases hj : s.snap.job with
    | none => simp
    | some b => cases hk : s.slot k <;> simp [hk]

/-! ### The choice (R118, R119) -/

theorem State.eligible_iff {c : Claimant} : s.eligible c = true ↔ s.admissible c = true ∧ s.claims c = true := by
  rw [State.eligible, Bool.and_eq_true, and_comm]

theorem State.mayChoose_iff :
    s.mayChoose = true ↔ s.downReq = none ∧ s.softInterval = false ∧ s.rstAsserted = false := by
  simp only [State.mayChoose, Bool.and_eq_true, Bool.not_eq_true', Option.isNone_iff_eq_none, and_assoc]

theorem State.secondGrantDue_iff : s.secondGrantDue = true ↔
    s.arbPtr = .table ∧ s.secondGrant = true ∧ s.pressure = true ∧ s.eligible .table = true := by
  simp only [State.secondGrantDue, Bool.and_eq_true, decide_eq_true_eq, and_assoc]

theorem State.chosen_of_closed (h : s.mayChoose = false) : s.chosen = none := if_neg (ne_true_of_eq_false h)

/-- The second grant of TABLE's turn (R119). -/
theorem State.chosen_of_second (h : s.mayChoose = true) (hd : s.secondGrantDue = true) : s.chosen = some .table :=
  (if_pos h).trans (if_pos hd)

/-- The first eligible claimant after the pointer (R118). -/
theorem State.chosen_of_turn (h : s.mayChoose = true) (hd : ¬ s.secondGrantDue = true) :
    s.chosen = (rotation s.arbPtr).find? s.eligible :=
  (if_pos h).trans (if_neg hd)

/-- The choice among three claimants in turn: the first that is eligible. -/
theorem find?_three {p : Claimant → Bool} (a b c : Claimant) :
    (p a = true → [a, b, c].find? p = some a) ∧
    (p a = false → p b = true → [a, b, c].find? p = some b) ∧
    (p a = false → p b = false → p c = true → [a, b, c].find? p = some c) ∧
    (p a = false → p b = false → p c = false → [a, b, c].find? p = none) := by
  simp +contextual [List.find?]

end Sys2Proof.Machine

open Sys2Proof Sys2Proof.Machine

/-- Settles O30: a claim is eligible where it is presented and its tag admissible (`State.eligible_iff`), and the choice runs
along the rotation after the pointer, but for TABLE's second grant. -/
theorem arbiterChoosesInTurn : Obligations.ArbiterChoosesInTurn := by
  refine ⟨fun s => ?_, fun s => ⟨fun hclosed => ?_, fun hdown hsoft hrst => ?_⟩⟩
  · intro free tableLeft snapLeft
    have hfree : s.freeTags = free := State.freeTags_eq
    have htable : 4 - s.tagsOf .table = tableLeft := congrArg (4 - ·) (State.tagsOf_eq fun o => by cases o <;> rfl)
    have hsnap : 2 - s.tagsOf .snap = snapLeft := congrArg (2 - ·) (State.tagsOf_eq fun o => by cases o <;> rfl)
    refine ⟨?_, ?_, ?_, State.pressure_iff⟩
    · rw [State.eligible_iff, State.admissible_pass_iff, State.claims_pass_iff, hfree, htable, hsnap, Nat.add_assoc]
    · rw [State.eligible_iff, State.admissible_table_iff, State.claims_table_iff, hfree, hsnap]
    · rw [State.eligible_iff, State.admissible_snap_iff, State.claims_snap_iff, hfree, htable]
  · refine State.chosen_of_closed (Bool.eq_false_iff.mpr fun hmay => ?_)
    obtain ⟨hdown, hsoft, -⟩ := State.mayChoose_iff.mp hmay
    rcases hclosed with hbusy | hsoft'
    · exact hbusy hdown
    · exact Bool.false_ne_true (hsoft.symm.trans hsoft')
  · have hmay : s.mayChoose = true := State.mayChoose_iff.mpr ⟨hdown, hsoft, hrst⟩
    refine ⟨fun hptr hsecond hpress hel =>
      State.chosen_of_second hmay (State.secondGrantDue_iff.mpr ⟨hptr, hsecond, hpress, hel⟩), fun hturn => ?_⟩
    rw [State.chosen_of_turn hmay (mt State.secondGrantDue_iff.mp hturn)]
    cases s.arbPtr with
    | pass =>
      obtain ⟨hfirst, hsecond, hthird, hnone⟩ := find?_three (p := s.eligible) .table .snap .pass
      exact ⟨fun hpass htable hsnap => hnone htable hsnap hpass, nofun, nofun, nofun, fun _ => hfirst, fun _ => hsecond,
        fun _ => hthird, nofun, nofun, nofun⟩
    | table =>
      obtain ⟨hfirst, hsecond, hthird, hnone⟩ := find?_three (p := s.eligible) .snap .pass .table
      exact ⟨fun hpass htable hsnap => hnone hsnap hpass htable, nofun, nofun, nofun, nofun, nofun, nofun, fun _ => hfirst,
        fun _ => hsecond, fun _ => hthird⟩
    | snap =>
      obtain ⟨hfirst, hsecond, hthird, hnone⟩ := find?_three (p := s.eligible) .pass .table .snap
      exact ⟨hnone, fun _ => hfirst, fun _ => hsecond, fun _ => hthird, nofun, nofun, nofun, nofun, nofun, nofun⟩

end

section
/-!
SUPPORT. The arming check of every window (R33, R123), and the records an answer makes READY (R50).
-/

namespace Sys2Proof.Machine

variable {s : State} {w : WinNo}

/-! ### The arming checks (R32, R33) -/

/-- What the arming check makes of window `w`: ACTIVE where it was ARMING and no PASS tag's bytes are in its ranges. -/
def State.checkedWindow (s : State) (w : WinNo) : Window :=
  if (s.window w).state = .arming ∧ s.passTagIn w = false then { state := .active, config := (s.window w).config }
  else s.window w

theorem State.checkedWindow_active (ha : (s.window w).state = .arming) (hp : ¬ s.passInRanges w) :
    s.checkedWindow w = { state := .active, config := (s.window w).config } :=
  if_pos ⟨ha, Bool.eq_false_iff.mpr (mt State.passTagIn_iff.mp hp)⟩

theorem State.checkedWindow_stays (h : (s.window w).state ≠ .arming ∨ s.passInRanges w) :
    s.checkedWindow w = s.window w := by
  refine if_neg fun ⟨ha, hclear⟩ => ?_
  rcases h with hother | hpass
  · exact hother ha
  · exact Bool.false_ne_true (hclear.symm.trans (State.passTagIn_iff.mpr hpass))

theorem State.window_armingCheck_same (s : State) (w : WinNo) : (s.armingCheck w).window w = s.checkedWindow w := by
  unfold State.armingCheck State.checkedWindow
  split
  · exact s.window_setWinState_same w _
  · rfl

theorem State.window_armingCheck_ne {v : WinNo} (h : v ≠ w) : (s.armingCheck v).window w = s.window w := by
  unfold State.armingCheck
  split
  · rw [State.window_setWinState, if_neg h]
  · rfl

/-- The checks do not touch the PASS tags or the ranges that they look at. -/
theorem State.passTagIn_armingCheck (s : State) (v w : WinNo) : (s.armingCheck v).passTagIn w = s.passTagIn w := by
  unfold State.armingCheck
  split
  · exact s.passTagIn_setWinState v w _
  · rfl

/-- A window checked already is past ARMING, or waits for a PASS tag as before. -/
theorem State.checkedWindow_armingCheck (s : State) (v w : WinNo) :
    (s.armingCheck v).checkedWindow w = s.checkedWindow w := by
  by_cases hv : v = w
  · subst hv
    unfold State.checkedWindow
    rw [State.passTagIn_armingCheck, State.window_armingCheck_same]
    by_cases hclear : (s.window v).state = .arming ∧ s.passTagIn v = false
    · simp [State.checkedWindow, hclear]
    · simp only [State.checkedWindow, if_neg hclear]
  · unfold State.checkedWindow
    rw [State.passTagIn_armingCheck, State.window_armingCheck_ne hv]

theorem State.window_foldl_armingCheck (ws : List WinNo) (s : State) (w : WinNo) :
    (ws.foldl State.armingCheck s).window w = if w ∈ ws then s.checkedWindow w else s.window w := by
  induction ws generalizing s with
  | nil => rfl
  | cons v vs ih =>
    rw [List.foldl_cons, ih, State.checkedWindow_armingCheck]
    by_cases hw : w ∈ vs
    · rw [if_pos hw, if_pos (List.mem_cons_of_mem v hw)]
    · rw [if_neg hw]
      by_cases hv : v = w
      · subst hv
        rw [if_pos List.mem_cons_self, State.window_armingCheck_same]
      · rw [if_neg (List.not_mem_cons_of_ne_of_not_mem (Ne.symm hv) hw), State.window_armingCheck_ne hv]

/-- No window's check hangs on another's. -/
theorem State.window_armingChecks (s : State) (w : WinNo) : s.armingChecks.window w = s.checkedWindow w :=
  (s.window_foldl_armingCheck _ w).trans (if_pos (List.mem_finRange w))

theorem State.armingChecks_of_windows (s : State) : s.armingChecks = { s with windows := s.armingChecks.windows } := by
  unfold State.armingChecks
  generalize List.finRange 16 = ws
  induction ws generalizing s with
  | nil => rfl
  | cons v vs ih =>
    have hcheck : s.armingCheck v = { s with windows := (s.armingCheck v).windows } := by
      unfold State.armingCheck
      split <;> rfl
    rw [List.foldl_cons, ih (s.armingCheck v)]
    generalize (vs.foldl State.armingCheck (s.armingCheck v)).windows = after
    rw [hcheck]

/-! ### Answers (R50) -/

/-- `t` is `s` with the record `link` of ID `id` READY, its answer as `how` says, where it had none. -/
def State.Answered (s t : State) (id : UpId) (link : Nat) (how : Record → Answer) : Prop :=
  t = { s with lists := t.lists } ∧ (∀ j, j ≠ id → t.list j = s.list j) ∧ (t.list id).nextKey = (s.list id).nextKey ∧
    List.Forall₂ (fun r r' : Record =>
      r' = if r.key = link ∧ r.answer = none then { r with answer := some (how r) } else r)
      (s.list id).records (t.list id).records

theorem answerRecords_forall₂ (link : Nat) (how : Record → Answer) (rs : List Record) :
    List.Forall₂ (fun r r' : Record =>
      r' = if r.key = link ∧ r.answer = none then { r with answer := some (how r) } else r)
      rs (answerRecords (fun r => decide (r.key = link)) how rs) := by
  rw [answerRecords, List.forall₂_map_right_iff, List.forall₂_same]
  intro r _
  simp only [Bool.and_eq_true, decide_eq_true_eq, Option.isNone_iff_eq_none]

/-- Answering the records of one ID under one key changes that list alone. -/
theorem State.answered_setList (s : State) (id : UpId) (link : Nat) (how : Record → Answer) :
    s.Answered (s.setList id { s.list id with
      records := answerRecords (fun r => decide (r.key = link)) how (s.list id).records }) id link how := by
  refine ⟨rfl, fun j hj => ?_, ?_, ?_⟩
  · rw [State.list_setList, if_neg hj.symm]
  · rw [State.list_setList_same]
  · rw [State.list_setList_same]
    exact answerRecords_forall₂ link how _

theorem bytesLE_zero (n : Nat) : bytesLE n 0 = List.replicate n 0 := by
  induction n with
  | zero => rfl
  | succ n ih =>
    rw [bytesLE, Nat.zero_div, ih, List.replicate_succ]
    rfl

/-- A failed READ carries zero data, a failed WRITE none. -/
theorem Record.failure_eq (r : Record) (st : UpStatus) : r.failure st =
    { status := st, data := if r.kind = .read then List.replicate r.size 0 else [] } := by
  unfold Record.failure
  cases r.kind with
  | read => exact congrArg (Answer.mk st) (bytesLE_zero r.size)
  | write => rfl

theorem State.answerDone_answered (s : State) (id : UpId) (link : Nat) (data : List Byte) :
    s.Answered (s.answerDone id link data) id link fun _ => { status := .done, data := data } :=
  s.answered_setList ..

theorem State.answerFailure_answered (s : State) (id : UpId) (link : Nat) (st : UpStatus) :
    s.Answered (s.answerFailure id link st) id link fun r =>
      { status := st, data := if r.kind = .read then List.replicate r.size 0 else [] } := by
  rw [← funext fun r => Record.failure_eq r st]
  exact s.answered_setList ..

/-! ### Responses of pass-through tags (R121) -/

theorem State.arrive_pass {g : Tag} {r : TagRecord} {id : UpId} {link : Nat} (hg : s.tagAt g = some r)
    (ho : r.owner = .pass id link) (ok : Bool) (data : BitVec 512) :
    s.arrive g ok data = (s.setTag g none).passCompleted r id link ok data := by
  simp only [State.arrive, hg, ho]

theorem State.passCompleted_ok (s : State) (r : TagRecord) (id : UpId) (link : Nat) (data : BitVec 512) :
    s.passCompleted r id link true data =
      (s.answerDone id link
        (if r.kind = .read then bytesLE r.size (data.toNat % 2 ^ (8 * r.size)) else [])).armingChecks := by
  unfold State.passCompleted
  cases r.kind <;> rfl

theorem State.passCompleted_error (s : State) (r : TagRecord) (id : UpId) (link : Nat) (data : BitVec 512) :
    s.passCompleted r id link false data = (s.answerFailure id link .memfault).armingChecks := rfl

end Sys2Proof.Machine

open Sys2Proof Sys2Proof.Machine

/-- Settles O32: the checks of the windows do not hang on each other (`State.window_armingChecks`), an answer rewrites one
list, record by record (`State.answered_setList`), and a pass-through completion makes the two in turn. -/
theorem passThroughCompletes : Obligations.PassThroughCompletes := by
  refine ⟨fun s => ⟨s.armingChecks_of_windows, fun w => ⟨fun harm hpass => ?_, fun hstays => ?_⟩⟩,
    fun s id link data st => ⟨s.answerDone_answered id link data, s.answerFailure_answered id link st⟩,
    fun s g r id link data hg ho => ⟨?_, ?_⟩⟩
  · exact (s.window_armingChecks w).trans (State.checkedWindow_active harm hpass)
  · exact (s.window_armingChecks w).trans (State.checkedWindow_stays hstays)
  · exact next_finish_congr ((State.arrive_pass hg ho true data).trans (State.passCompleted_ok ..)) s
  · exact next_finish_congr ((State.arrive_pass hg ho false data).trans (State.passCompleted_error ..)) s

end

section
/-!
SUPPORT. The checks of SNAPSHOT START (R129) in the words of the rule, the completion and the end of a snapshot (R140,
R142), its failing (R143), and the responses of its destination writes (R122).
-/

namespace Sys2Proof.Machine

variable {s : State} {w : WinNo} {b : SnapJob}

/-! ### The checks of SNAPSHOT START (R129) -/

/-- The argument checks of SNAPSHOT START, as the model refuses by them. -/
theorem State.not_startFieldsOk_iff {a : StartArgs} :
    ¬ s.startFieldsOk w a ↔ a.count.toNat = 0 ∨ (s.config w).count < a.first.toNat + a.count.toNat ∨
      a.dest.toNat % (s.config w).width.bytes ≠ 0 ∨ Config.addressEnd < (s.startRegion w a).hi := by
  simp only [State.startFieldsOk, Config.addressEnd, not_and_or, not_not, not_le, Nat.dvd_iff_mod_eq_zero, ne_eq]

theorem State.meetsStart_iff {a : StartArgs} :
    (s.windows.toList.any fun x => x.overlapsRange (s.startRegion w a)) = true ↔ s.startMeets w a :=
  State.any_overlapsRange_iff

/-- SNAPSHOT START as a chain of its checks, once its window is known. -/
theorem State.snapshotStart_eq {a : StartArgs} (hw : a.window.toNat = w.val) :
    s.snapshotStart a =
      if s.snap.state.isBusy then refuse s .busy
      else if (s.window w).state ≠ .active then refuse s .wrongState
      else if a.count.toNat = 0 ∨ (s.config w).count < a.first.toNat + a.count.toNat ∨
          a.dest.toNat % (s.config w).width.bytes ≠ 0 ∨ Config.addressEnd < (s.startRegion w a).hi then
        refuse s .badArgument
      else if s.windows.toList.any (fun x => x.overlapsRange (s.startRegion w a)) then refuse s .overlap
      else okay (s.snapshotBegin (startedJob w a)) [] :=
  withWindow_of_toNat hw s _

/-! ### Completion and end (R140, R142) -/

theorem State.completionCheck_of_due (hjob : s.snap.job = some b) (hrun : ∃ l, s.snap.state = .running l)
    (hcur : b.cursor = b.first + b.count) (hfree : ∀ k, s.slot k = .free) :
    s.completionCheck = { s with snap := { s.snap with state := .idle, lastResult := .done, done := true } } := by
  simp only [State.completionCheck, hjob, SnapState.isRunning_iff.mpr hrun, hcur, State.slotsFree_iff.mpr hfree,
    decide_true, Bool.and_self, if_true]

theorem State.completionCheck_of_not_due (hjob : s.snap.job = some b)
    (h : ¬ ((∃ l, s.snap.state = .running l) ∧ b.cursor = b.first + b.count ∧ ∀ k, s.slot k = .free)) :
    s.completionCheck = s := by
  rw [← SnapState.isRunning_iff, ← State.slotsFree_iff] at h
  unfold State.completionCheck
  rw [hjob]
  refine if_neg fun hdue => h ?_
  simpa [and_assoc] using hdue

/-- The last result that an ending leaves (R142). -/
def Ending.result : Ending → SnapResult
  | .aborted => .aborted
  | .failed => .failed

theorem State.endCheck_of_free {q : Ending} (hst : s.snap.state = .aborting q) (hfree : ∀ k, s.slot k = .free) :
    s.endCheck = { s with snap := { s.snap with state := .idle, lastResult := q.result, done := true } } := by
  simp only [State.endCheck, hst, State.slotsFree_iff.mpr hfree, if_true]
  cases q <;> rfl

theorem State.endCheck_of_not_aborting (h : ∀ q, s.snap.state ≠ .aborting q) : s.endCheck = s := by
  unfold State.endCheck
  split
  case h_1 q hq => exact absurd hq (h q)
  all_goals rfl

theorem State.endCheck_of_slot_used (h : ∃ k, s.slot k ≠ .free) : s.endCheck = s := by
  obtain ⟨k, hk⟩ := h
  have hused : ¬ s.slotsFree = true := fun hfree => hk (State.slotsFree_iff.mp hfree k)
  unfold State.endCheck
  split
  · exact if_neg hused
  all_goals rfl

/-! ### Failing (R143) -/

theorem State.failSnapshot_running {l : Option WalkLack} (h : s.snap.state = .running l) (i : Nat) :
    s.failSnapshot i = { s.leaveRunning .failed with
      snap := { (s.leaveRunning .failed).snap with failing := some i } } := by
  simp only [State.failSnapshot, h]

theorem State.failSnapshot_aborted (h : s.snap.state = .aborting .aborted) (i : Nat) :
    s.failSnapshot i = { s with snap := { s.snap with state := .aborting .failed, failing := some i } } := by
  simp only [State.failSnapshot, h]

theorem State.failSnapshot_stays (h : s.snap.state = .aborting .failed ∨ s.snap.state = .idle) (i : Nat) :
    s.failSnapshot i = s := by
  rcases h with h | h <;> simp only [State.failSnapshot, h]

/-! ### Responses of destination writes (R122) -/

theorem State.arrive_snap {g : Tag} {r : TagRecord} {k : SlotNo} (hsoft : s.softInterval = false)
    (hg : s.tagAt g = some r) (ho : r.owner = .snap k) (ok : Bool) (data : BitVec 512) :
    s.arrive g ok data =
      if ok then (s.setTag g none).destinationWritten k else (s.setTag g none).destinationFailed k := by
  have hs : ¬ (s.setTag g none).softInterval = true := Bool.eq_false_iff.mp hsoft
  simp only [State.arrive, hg, ho, State.snapResponse, if_neg hs]

theorem State.destinationFailed_of_writing {k : SlotNo} {j v : Nat} {h : Tag} (hslot : s.slot k = .writing j v h)
    (hjob : s.snap.job = some b) : s.destinationFailed k =
      (((s.setSlot k .free).handFault .snapWriteFailed b.window j).failSnapshot j).endCheck := by
  simp only [State.destinationFailed, hslot, hjob]

/-! ### The bytes of SNAPSHOT STATUS (10.6) -/

theorem Snapshot.length_statusBytes (p : Snapshot) : p.statusBytes.length = 26 := by
  unfold Snapshot.statusBytes
  cases p.job <;> simp

end Sys2Proof.Machine

open Sys2Proof Sys2Proof.Machine

/-- Settles O41: each check fails in its order, and a start that passes them stores the job and makes the walk's first
step. -/
theorem snapshotStarts : Obligations.SnapshotStarts := by
  intro s a w htake hw refused
  have hstart : ∀ {t st res}, s.counted.snapshotStart a = { st := t, status := st, results := res } →
      exec (.snapshotStart a) s = .next (finish s (t.answered codeSnapshotStart st res)) :=
    State.next_finish_endFrame htake codeSnapshotStart (fun t => t.snapshotStart a)
  have hbusy : s.counted.snap.state.isBusy = true ↔ s.snap.state ≠ .idle := SnapState.isBusy_iff
  have hwin : s.counted.window w = s.window w := rfl
  have hfields := State.not_startFieldsOk_iff (s := s.counted) (w := w) (a := a)
  have hmeets := State.meetsStart_iff (s := s.counted) (w := w) (a := a)
  refine ⟨fun hst => hstart ?_, fun hidle hst => hstart ?_, fun hidle hst hbad => hstart ?_,
    fun hidle hst hok hover => hstart ?_, fun hidle hst hok hclear => hstart ?_⟩
  all_goals rw [State.snapshotStart_eq hw, hwin]
  · exact if_pos (hbusy.mpr hst)
  all_goals rw [if_neg (mt hbusy.mp (not_not.mpr hidle))]
  · exact if_pos hst
  all_goals rw [if_neg (not_not.mpr hst)]
  · exact if_pos (hfields.mp hbad)
  all_goals rw [if_neg (mt hfields.mpr (not_not.mpr hok))]
  · exact if_pos (hmeets.mpr hover)
  · exact if_neg (mt hmeets.mp hclear)

/-- Settles O43: RUNNING is the one state that an ABORT leaves. -/
theorem snapshotAborts : Obligations.SnapshotAborts := by
  intro s htake
  have habort : ∀ {t st res}, s.counted.snapshotAbort = { st := t, status := st, results := res } →
      exec .snapshotAbort s = .next (finish s (t.answered codeSnapshotAbort st res)) :=
    State.next_finish_endFrame htake codeSnapshotAbort State.snapshotAbort
  have hsnap : s.counted.snap = s.snap := rfl
  refine ⟨fun hno => habort ?_, fun l hl => habort ?_⟩
  all_goals rw [State.snapshotAbort, hsnap]
  · cases hst : s.snap.state with
    | running l => exact absurd hst (hno l)
    | _ => rfl
  · rw [hl]
    rfl

/-- Settles O44: the two checks of the engine at their own rows, and the fields of SNAPSHOT STATUS code by code. -/
theorem snapshotEndsAndReports : Obligations.SnapshotEndsAndReports := by
  refine ⟨fun s b hjob => ⟨?_, fun hno => ?_⟩, fun s => ⟨fun hst hfree => ?_, fun hst hfree => ?_, fun hstays => ?_⟩,
    fun s htake => ?_⟩
  · rintro ⟨hrun, hcur, hfree⟩
    exact next_finish_congr (State.completionCheck_of_due hjob hrun hcur hfree) s
  · exact next_finish_congr (State.completionCheck_of_not_due hjob hno) s
  · exact next_finish_congr (State.endCheck_of_free hst hfree) s
  · exact next_finish_congr (State.endCheck_of_free hst hfree) s
  · exact next_finish_congr (hstays.elim State.endCheck_of_not_aborting State.endCheck_of_slot_used) s
  · intro stateCode resultCode presence parameters results
    have hstate : bytesLE 1 (snapStateCode s.snap.state) = [stateCode] := by
      cases hst : s.snap.state <;> simp only [stateCode, hst] <;> rfl
    have hresult : bytesLE 1 (snapResultCode s.snap.lastResult) = [resultCode] := by
      cases hlast : s.snap.lastResult <;> simp only [resultCode, hlast] <;> rfl
    have hbytes : s.snap.statusBytes = results := by
      cases hjob : s.snap.job with
      | none =>
        simp only [results, parameters, presence, Snapshot.statusBytes, hjob, hstate, hresult, bytesLE_zero]
        rfl
      | some b =>
        have hmode : bytesLE 1 (modeCode b.mode) = [if b.mode = .copyClear then 1 else 0] := by
          cases b.mode <;> rfl
        simp only [results, parameters, presence, Snapshot.statusBytes, hjob, hstate, hresult, hmode]
        rfl
    refine ⟨hbytes ▸ s.snap.length_statusBytes, ?_⟩
    rw [← hbytes]
    exact congrArg Host.Outcome.next (State.endFrame_reply htake codeSnapshotStatus State.snapshotStatus rfl)

/-- Settles O45: the response goes to the slot that its tag's record names, and the failing goes by the engine's state. -/
theorem destinationWritesReturn : Obligations.DestinationWritesReturn := by
  refine ⟨fun s g r k hg ho hsoft => ⟨?_, fun j v h b hslot hjob => ?_⟩,
    fun s i => ⟨fun l hl => ⟨State.failSnapshot_running hl i, fun k => ?_⟩, fun h => State.failSnapshot_aborted h i,
      fun h => State.failSnapshot_stays h i⟩⟩
  · exact next_finish_congr (State.arrive_snap hsoft hg ho true 0) s
  · have hfail := State.destinationFailed_of_writing (s := s.setTag g none) (k := k) hslot hjob
    exact next_finish_congr ((State.arrive_snap hsoft hg ho false 0).trans hfail) s
  · have hslots : (s.failSnapshot i).slot k = (s.leaveRunning .failed).slot k := by
      rw [State.failSnapshot_running hl]
      rfl
    exact hslots.trans (s.slot_leaveRunning .failed k)

end

section
/-!
SUPPORT. The stranding of an entry (R149 to R151): the answers and latches of its READ and TAKE waiters, its effects on
the other blocks, and where the snapshot's failure withdraws its captures (R84, R144).
-/

namespace Sys2Proof.Machine

variable {s : State} {e : EntryNo} {w : WinNo} {id : UpId}

/-! ### The response of a failed table transaction (R122) -/

theorem State.arrive_tableResponse {g : Tag} {r : TagRecord} (hg : s.tagAt g = some r) (ho : r.owner = .table e)
    (ok : Bool) (data : BitVec 512) : s.arrive g ok data = (s.setTag g none).tableResponse r e ok data := by
  simp only [State.arrive, hg, ho]

theorem State.tableResponse_error (hsoft : s.softInterval = false) (r : TagRecord) (e : EntryNo) (data : BitVec 512) :
    s.tableResponse r e false data = if r.kind = .read then s.fetchFailed e else s.writeFailed e := by
  unfold State.tableResponse
  rw [if_neg (Bool.eq_false_iff.mp hsoft)]
  cases r.kind <;> rfl

/-! ### Failed waiters (R55, R149) -/

@[simp] theorem State.snap_reportFailure (s : State) (id : UpId) (key : Nat) (st : UpStatus) :
    (s.reportFailure id key st).snap = s.snap := by
  unfold State.reportFailure
  repeat' split
  all_goals rfl

@[simp] theorem State.snap_failWaiters (s : State) (ws : List Waiter) (st : UpStatus) :
    (s.failWaiters ws st).snap = s.snap := by
  unfold State.failWaiters
  refine foldl_keeps State.snap _ (fun a y => ?_) ws s
  split
  · split <;> simp
  · rfl

/-- The waiter is a READ or TAKE of ID `id` whose record is `src`. -/
def Waiter.isSource (id : UpId) (src : Nat) : Waiter → Bool
  | .op o j link => decide (j = id ∧ link = src) && !o.kind.isPosted
  | .capture _ => false

theorem any_isSource_iff {ws : List Waiter} {src : Nat} :
    ws.any (Waiter.isSource id src) = true ↔ ∃ k, sourceAt ws id src k := by
  rw [List.any_eq_true]
  constructor
  · rintro ⟨y, hy, hsrc⟩
    obtain ⟨k, hk⟩ := List.mem_iff_getElem?.mp hy
    cases y with
    | op o j link =>
      simp only [Waiter.isSource, Bool.and_eq_true, decide_eq_true_eq, Bool.not_eq_true'] at hsrc
      obtain ⟨⟨rfl, rfl⟩, hp⟩ := hsrc
      exact ⟨k, o, hk, OpKind.isPosted_eq_false.mp hp⟩
    | capture n => cases hsrc
  · rintro ⟨k, o, hk, ho⟩
    exact ⟨_, List.mem_iff_getElem?.mpr ⟨k, hk⟩, by simp [Waiter.isSource, OpKind.isPosted_eq_false.mpr ho]⟩

/-- What the failure of a list of waiters makes of the latch of ID `id`: EMPTY, where its source is one of them. -/
def Latch.failedBy (id : UpId) (ws : List Waiter) : Latch → Latch
  | .pending w i j src => if ws.any (Waiter.isSource id src) then .empty else .pending w i j src
  | .empty => .empty
  | .filled w i j v => .filled w i j v

theorem Latch.failedBy_nil (id : UpId) (l : Latch) : l.failedBy id [] = l := by
  cases l <;> rfl

theorem Latch.failedBy_cons (id : UpId) (y : Waiter) (ys : List Waiter) (l : Latch) :
    l.failedBy id (y :: ys) = (l.failedBy id [y]).failedBy id ys := by
  cases l with
  | pending w i j src => cases hy : y.isSource id src <;> simp [Latch.failedBy, hy]
  | _ => rfl

theorem State.latch_reportFailure (s : State) {o : Operation} (ho : o.kind.isPosted = false) (j id : UpId) (key : Nat)
    (st : UpStatus) : (s.reportFailure j key st).latch id = (s.latch id).failedBy id [.op o j key] := by
  have hother : j ≠ id → (s.latch id).failedBy id [.op o j key] = s.latch id := fun hj => by
    cases s.latch id <;> simp [Latch.failedBy, Waiter.isSource, hj]
  unfold State.reportFailure
  dsimp only
  by_cases hj : j = id
  · subst hj
    cases hl : s.latch j with
    | pending w i n src => by_cases hs : key = src <;> simp [Latch.failedBy, Waiter.isSource, ho, hs, hl, eq_comm]
    | _ => exact hl
  · rw [hother hj]
    split
    · split
      · rw [State.latch_setLatch, if_neg hj]
        rfl
      · rfl
    all_goals rfl

theorem State.latch_failWaiters (s : State) (ws : List Waiter) (st : UpStatus) (id : UpId) :
    (s.failWaiters ws st).latch id = (s.latch id).failedBy id ws := by
  induction ws generalizing s with
  | nil => exact (Latch.failedBy_nil id _).symm
  | cons y ys ih =>
    rw [Latch.failedBy_cons]
    refine (ih _).trans (congrArg (Latch.failedBy id ys) ?_)
    cases y with
    | capture k => cases s.latch id <;> rfl
    | op o j link =>
      cases hp : o.kind.isPosted with
      | true => cases hl : s.latch id <;> simp [hp, hl, Latch.failedBy, Waiter.isSource]
      | false => simpa [hp] using s.latch_reportFailure hp j id link st

/-- A record takes the failure where a READ or TAKE of the list answers it, and no other record changes. -/
theorem State.failWaiters_records (s : State) (ws : List Waiter) (st : UpStatus) (id : UpId) :
    List.Forall₂ (fun r r' : Record =>
        (r.answer = none → (∃ k, answersAt ws id r k) → r' = { r with answer := some (r.failure st) }) ∧
          (r.answer ≠ none ∨ (∀ k, ¬ answersAt ws id r k) → r' = r))
      (s.list id).records ((s.failWaiters ws st).list id).records := by
  rw [State.records_failWaiters, answerRecords, List.forall₂_map_right_iff, List.forall₂_same]
  intro r _
  have howes : ws.any (Waiter.owes id r) = true ↔ ∃ k, answersAt ws id r k := by
    simp only [List.any_eq_true, Waiter.owes_iff, List.mem_iff_getElem?]
    constructor
    · rintro ⟨_, ⟨k, hk⟩, o, link, rfl, ho, ht⟩
      exact ⟨k, o, link, hk, ho, ht⟩
    · rintro ⟨k, o, link, hk, ho, ht⟩
      exact ⟨_, ⟨k, hk⟩, o, link, rfl, ho, ht⟩
  refine ⟨fun ha hk => if_pos ?_, fun h => if_neg ?_⟩
  · simp [howes.mpr hk, ha]
  · rw [Bool.and_eq_true, Option.isNone_iff_eq_none, howes]
    rintro ⟨⟨k, hk⟩, ha⟩
    exact h.elim (absurd ha) fun hno => hno k hk

/-- The waiters a failed fetch keeps are its posted ones and its captures (R149). -/
theorem not_answersLater (y : Waiter) : (!answersLater y) = match y with
    | .op o _ _ => decide (o.kind ≠ .read ∧ o.kind ≠ .take)
    | .capture _ => true := by
  cases y with
  | op o id link => cases hk : o.kind <;> simp [answersLater, OpKind.isPosted, hk]
  | capture k => rfl

/-! ### The effects of a stranding (R151) -/

/-- The response order lists and the wide-read latches. -/
def State.answerSide (s : State) :=
  (s.lists, s.latches)

theorem State.list_of_answerSide {t : State} (h : t.answerSide = s.answerSide) (id : UpId) : t.list id = s.list id :=
  congrArg (fun p => p.1[id]) h

theorem State.latch_of_answerSide {t : State} (h : t.answerSide = s.answerSide) (id : UpId) : t.latch id = s.latch id :=
  congrArg (fun p => p.2[id]) h

theorem State.endCheck_answerSide (s : State) : s.endCheck.answerSide = s.answerSide := by
  unfold State.endCheck
  repeat' split
  all_goals rfl

theorem State.failSnapshot_answerSide (s : State) (i : Nat) : (s.failSnapshot i).answerSide = s.answerSide := by
  unfold State.failSnapshot
  split <;> rfl

theorem State.snapshotFaulted_answerSide (s : State) (w : WinNo) (i : Nat) :
    (s.snapshotFaulted w i).answerSide = s.answerSide := by
  unfold State.snapshotFaulted
  repeat' split
  · exact (State.endCheck_answerSide _).trans (s.failSnapshot_answerSide i)
  all_goals rfl

theorem State.strandingEffects_answerSide (s : State) (k : FaultKind) (w : WinNo) (i : Nat) :
    (s.strandingEffects k w i).answerSide = s.answerSide := by
  have hfault : (s.strandingEffects k w i).answerSide = (s.enterFault w i).answerSide := by
    unfold State.strandingEffects State.handFault
    split <;> rfl
  rw [hfault]
  unfold State.enterFault
  split
  case h_1 | h_2 => exact State.snapshotFaulted_answerSide ..
  all_goals rfl

theorem State.failSnapshot_entries (h : ∀ l, s.snap.state ≠ .running l) (i : Nat) :
    (s.failSnapshot i).entries = s.entries := by
  unfold State.failSnapshot
  split
  case h_1 l hl => exact absurd hl (h l)
  all_goals rfl

/-- A stranding touches the entries only where it fails a RUNNING snapshot, whose captures it withdraws (R84, R144). -/
theorem State.entries_enterFault (s : State) (w : WinNo) (i : Nat) :
    (s.strandFails w → (s.enterFault w i).entries = s.withdrawCaptures.entries) ∧
      (¬ s.strandFails w → (s.enterFault w i).entries = s.entries) := by
  by_cases hst : (s.window w).state = .active ∨ (s.window w).state = .draining
  · obtain ⟨q, hq⟩ := State.enterFault_cases hst i
    rw [hq]
    by_cases hon : ∃ b, s.snap.job = some b ∧ b.window = w
    · obtain ⟨b, hb, hw⟩ := hon
      obtain ⟨hentries, -⟩ := ((s.setWinState w (.fault q)).failSnapshot i).endCheck_keeps
      rw [State.snapshotFaulted_on (s := s.setWinState w (.fault q)) hb hw, hentries]
      refine ⟨fun ⟨_, ⟨l, hl⟩, _⟩ => ?_, fun hno => ?_⟩
      · rw [State.failSnapshot_running (s := s.setWinState w (.fault q)) hl]
        rfl
      · refine State.failSnapshot_entries (s := s.setWinState w (.fault q)) (fun l hl => ?_) i
        exact hno ⟨hst, ⟨l, hl⟩, b, hb, hw⟩
    · rw [State.snapshotFaulted_other (s := s.setWinState w (.fault q)) (.inl fun b hb hw => hon ⟨b, hb, hw⟩)]
      exact ⟨fun ⟨_, _, hjob⟩ => absurd hjob hon, fun _ => rfl⟩
  · have hstay : s.enterFault w i = s := by
      unfold State.enterFault
      split
      case h_1 h => exact absurd (.inl h) hst
      case h_2 h => exact absurd (.inr h) hst
      all_goals rfl
    rw [hstay]
    exact ⟨fun h => absurd h.1 hst, fun _ => rfl⟩

theorem State.entries_strandingEffects (s : State) (k : FaultKind) (w : WinNo) (i : Nat) :
    (s.strandingEffects k w i).entries = (s.enterFault w i).entries := by
  unfold State.strandingEffects State.handFault
  split <;> rfl

theorem State.strandFails_congr {t : State} (hwin : t.windows = s.windows) (hsnap : t.snap = s.snap) :
    t.strandFails w ↔ s.strandFails w := by
  simp only [State.strandFails, State.window, hwin, hsnap]

/-- An entry stays as its stranding put it, but loses its captures and their mark where the snapshot fails. -/
theorem State.entry_strandingEffects {y : Entry} (hy : s.entry e = some y) (k : FaultKind) (w : WinNo) (i : Nat) :
    (s.strandFails w → y.captureRequested = true → (s.strandingEffects k w i).entry e = some
      { y with waiters := y.waiters.filter (fun z => !isCapture z), captureRequested := false }) ∧
    (¬ s.strandFails w ∨ y.captureRequested = false → (s.strandingEffects k w i).entry e = some y) := by
  obtain ⟨hfails, hkeeps⟩ := s.entries_enterFault w i
  have hwithdrawn : s.strandFails w → (s.strandingEffects k w i).entry e = s.withdrawCaptures.entry e := fun h =>
    State.entry_of_entries ((s.entries_strandingEffects k w i).trans (hfails h)) e
  have hkept : ¬ s.strandFails w → (s.strandingEffects k w i).entry e = s.entry e := fun h =>
    State.entry_of_entries ((s.entries_strandingEffects k w i).trans (hkeeps h)) e
  refine ⟨fun h hcap => ?_, fun h => ?_⟩
  · rw [hwithdrawn h, State.entry_withdrawCaptures, hy, Option.map_some, if_pos hcap]
  · by_cases hs : s.strandFails w
    · have hcap : y.captureRequested = false := h.resolve_left (not_not.mpr hs)
      rw [hwithdrawn hs, State.entry_withdrawCaptures, hy, Option.map_some, if_neg (by simp [hcap])]
    · rw [hkept hs, hy]

/-! ### The stranding of an entry (R149, R150) -/

/-- The READs and TAKEs of `x` are answered MEMFAULT, and `y` stands in its place (R149). -/
def State.fetchStranded (s : State) (e : EntryNo) (x y : Entry) : State :=
  (s.failWaiters x.waiters .memfault).setEntry e (some y)

theorem State.fetchFailed_eq {x : Entry} {d : Nat} {m : Bool} {q : FetchCause} (hx : s.entry e = some x)
    (hb : x.body = .fetch d m q) :
    s.fetchFailed e =
      (s.fetchStranded e x { x with
        body := .strandedFetch d m q, waiters := x.waiters.filter (fun y => !answersLater y)
        flushAll := false, retry := false }).strandingEffects .fetchFailed x.window x.index := by
  simp only [State.fetchFailed, State.fetchStranded, hx, hb]

theorem State.writeFailed_eq {x : Entry} {v : Nat} {r : Bool} (hx : s.entry e = some x) (hb : x.body = .write v r) :
    s.writeFailed e =
      ({ s.setEntry e (some { x with
          body := .strandedWrite v, dirtySince := s.stamp x, flushAll := false, retry := false }) with
        carry := s.carry.filter (fun f => decide (f ≠ e)) } : State).strandingEffects .writeFailed x.window
          x.index := by
  simp only [State.writeFailed, hx, hb]

theorem State.strandFails_fetchStranded (s : State) (e : EntryNo) (x y : Entry) (w : WinNo) :
    (s.fetchStranded e x y).strandFails w ↔ s.strandFails w :=
  State.strandFails_congr (State.windows_of_fixed (s.failWaiters_fixed x.waiters .memfault))
    (s.snap_failWaiters x.waiters .memfault)

/-- The lists and the latches after a failed fetch are as the failures of its waiters leave them. -/
theorem State.strandingEffects_fetchStranded (s : State) (e : EntryNo) (x y : Entry) (k : FaultKind) (w : WinNo)
    (i : Nat) (id : UpId) :
    ((s.fetchStranded e x y).strandingEffects k w i).list id = (s.failWaiters x.waiters .memfault).list id ∧
      ((s.fetchStranded e x y).strandingEffects k w i).latch id = (s.failWaiters x.waiters .memfault).latch id := by
  have hside := (s.fetchStranded e x y).strandingEffects_answerSide k w i
  exact ⟨State.list_of_answerSide hside id, State.latch_of_answerSide hside id⟩

/-! ### RETRY (R156) -/

theorem WinState.isFault_of_not_fault {x : WinState} (h : ∀ q, x ≠ .fault q) : x.isFault = false := by
  cases x with
  | fault q => exact absurd rfl (h q)
  | _ => rfl

end Sys2Proof.Machine

open Sys2Proof Sys2Proof.Machine

/-- Settles O46: the waiters' failures make the answers and the latches (`State.failWaiters_records`,
`State.latch_failWaiters`), and the effects on the other blocks touch the entry only where they fail the snapshot
(`State.entry_strandingEffects`). -/
theorem errorsStrand : Obligations.ErrorsStrand := by
  refine ⟨⟨fun s g r e hg ho hk hsoft => ?_, fun s e x d m q hx hb => ?_⟩,
    fun s g r e hg ho hk hsoft => ?_, fun s e x v r hx hb => ?_⟩
  · refine next_finish_congr ((State.arrive_tableResponse hg ho false 0).trans ?_) s
    rw [State.tableResponse_error (s := s.setTag g none) hsoft, if_pos hk]
  · intro y failed
    obtain ⟨hwithdrawn, hkept⟩ := State.entry_strandingEffects (s := s.fetchStranded e x y)
      (State.entry_setEntry_same _ e (some y)) .fetchFailed x.window x.index
    rw [State.strandFails_fetchStranded] at hwithdrawn hkept
    rw [State.fetchFailed_eq hx hb]
    refine ⟨rfl, hwithdrawn, hkept, List.filter_congr fun z _ => not_answersLater z, fun id => ?_,
      fun id w i j src hl => ?_⟩
    all_goals obtain ⟨hlist, hlatch⟩ :=
      s.strandingEffects_fetchStranded e x y .fetchFailed x.window x.index id
    · have hfailed : failed = fun r => r.failure .memfault := funext fun r => (r.failure_eq .memfault).symm
      rw [hlist, hfailed]
      exact s.failWaiters_records x.waiters .memfault id
    · rw [hlatch, State.latch_failWaiters, hl]
      exact ⟨fun h => if_pos (any_isSource_iff.mpr h), fun h => if_neg (mt any_isSource_iff.mp h)⟩
  · refine next_finish_congr ((State.arrive_tableResponse hg ho false 0).trans ?_) s
    rw [State.tableResponse_error (s := s.setTag g none) hsoft, if_neg (by simp [hk])]
  · intro y u
    rw [State.writeFailed_eq hx hb]
    have hy : u.entry e = some y := State.entry_setEntry_same s e (some y)
    exact ⟨rfl, State.entry_strandingEffects hy .writeFailed x.window x.index⟩

/-- Settles O48: RETRY's one check of the window's state, and the re-entry by the operation that failed. -/
theorem retryReenters : Obligations.RetryReenters := by
  refine ⟨fun s w htake => ?_, fun s e x hx => ⟨fun d m q hb => ?_, fun v hb => ?_⟩⟩
  · intro c es
    have hretry : ∀ {t st res}, s.counted.retryWindow c = { st := t, status := st, results := res } →
        exec (.retry c) s = .next (finish s (t.answered codeRetry st res)) :=
      State.next_finish_endFrame htake codeRetry (fun t => t.retryWindow c)
    have hwin : s.counted.window w = s.window w := rfl
    refine ⟨fun hst => hretry ?_, fun q hst => hretry ?_⟩
    all_goals rw [State.retryWindow, withWindow_ofNat, hwin]
    · rw [WinState.isFault_of_not_fault hst]
      rfl
    · rw [hst]
      rfl
  · simp only [State.reenter, hx, hb]
  · simp only [State.reenter, hx, hb]

end

section
/-!
SUPPORT. ALERT POP's eleven bytes (R165, 10.6), and the interrupt line bit by bit (R166, R167).
-/

namespace Sys2Proof.Machine

variable {s : State}

/-! ### ALERT POP (R165) -/

/-- The head record in its bytes, and behind it the records left and the sequence counter. -/
theorem alertPopBytes_some (a : Alert) (left : Nat) (seq : BitVec 16) :
    alertPopBytes (some a) left seq =
      [1, BitVec.ofNat 8 (alertKindCode a.kind), BitVec.ofNat 8 a.window.val] ++ bytesLE 2 a.seq.toNat ++
        bytesLE 3 a.index ++ [BitVec.ofNat 8 left] ++ bytesLE 2 seq.toNat := rfl

theorem alertPopBytes_none (seq : BitVec 16) :
    alertPopBytes none 0 seq = [0, 0, 0, 0, 0, 0, 0, 0, 0] ++ bytesLE 2 seq.toNat := rfl

theorem State.alertPop_cons {a : Alert} {rest : List Alert} (h : s.alerts = a :: rest) :
    s.alertPop = okay { s with alerts := rest } (alertPopBytes (some a) rest.length s.alertSeq) := by
  rw [State.alertPop, h, List.head?_cons, List.drop_one, List.tail_cons]

theorem State.alertPop_nil (h : s.alerts = []) : s.alertPop = okay s (alertPopBytes none 0 s.alertSeq) := by
  have hs : { s with alerts := [] } = s := by rw [← h]
  rw [State.alertPop, h, List.head?_nil, List.drop_nil, List.length_nil, hs]

/-! ### The interrupt line (R166, R167) -/

/-- Two words share a bit exactly where their conjunction is not 0. -/
theorem and_ne_zero_iff_common_bit {n : Nat} {x y : BitVec n} :
    x &&& y ≠ 0 ↔ ∃ j : Fin n, x.getLsbD j = true ∧ y.getLsbD j = true := by
  rw [Ne, ← not_iff_not, not_not, not_exists, BitVec.eq_of_getLsbD_eq_iff, Fin.forall_iff]
  simp only [BitVec.getLsbD_and, BitVec.ofNat_eq_ofNat, BitVec.getLsbD_zero, Bool.and_eq_false_iff, not_and_or,
    Bool.not_eq_true]

theorem ite_weight (p : Prop) [Decidable p] (k : Nat) : (if p then k else 0) = k * (decide p).toNat := by
  by_cases h : p <;> simp [h]

/-- The weights 1, 2, 4 and 8 are the places of the four sources in a binary number. -/
theorem State.sources_eq_bits (s : State) :
    s.sources = Nat.bit (decide (s.alerts ≠ [])) (Nat.bit (decide (s.faults.first ≠ none))
      (Nat.bit (decide (s.snap.done = true)) (Nat.bit (decide (s.flushAllDone = true)) 0))) := by
  simp only [State.sources, ite_weight, Nat.bit_val]
  omega

theorem State.getLsbD_sources (s : State) :
    ((BitVec.ofNat 4 s.sources).getLsbD 0 = true ↔ s.alerts ≠ []) ∧
      ((BitVec.ofNat 4 s.sources).getLsbD 1 = true ↔ s.faults.first ≠ none) ∧
      ((BitVec.ofNat 4 s.sources).getLsbD 2 = true ↔ s.snap.done = true) ∧
      ((BitVec.ofNat 4 s.sources).getLsbD 3 = true ↔ s.flushAllDone = true) := by
  have hbit : ∀ j < 4, (BitVec.ofNat 4 s.sources).getLsbD j = s.sources.testBit j := fun j hj => by
    rw [BitVec.getLsbD_ofNat, decide_eq_true hj, Bool.true_and]
  rw [hbit 0 (by decide), hbit 1 (by decide), hbit 2 (by decide), hbit 3 (by decide), State.sources_eq_bits]
  simp only [Nat.testBit_bit_zero, Nat.testBit_bit_succ, decide_eq_true_iff, and_self]

theorem State.irqLow_iff_common_bit (s : State) :
    s.irqLow = true ↔ ∃ j : Fin 4, (BitVec.ofNat 4 s.sources).getLsbD j = true ∧ s.enables.getLsbD j = true := by
  rw [State.irqLow, decide_eq_true_iff, and_ne_zero_iff_common_bit]

end Sys2Proof.Machine

open Sys2Proof Sys2Proof.Machine

/-- Settles O50: an alert raised has its one equation, and ALERT POP answers by the head of the queue. -/
theorem alertsQueuedAndPopped : Obligations.AlertsQueuedAndPopped := by
  refine ⟨fun s w i k => rfl, fun s htake => ⟨fun a rest ha => ?_, fun hnil => ?_⟩⟩
  all_goals refine State.next_endFrame htake codeAlertPop State.alertPop ?_
  · rw [State.alertPop_cons (s := s.counted) ha, alertPopBytes_some]
    cases a.kind <;> rfl
  · rw [State.alertPop_nil (s := s.counted) hnil, alertPopBytes_none]
    rfl

/-- Settles O51: each source is a bit of the sources' word (`State.getLsbD_sources`), and the line is low where the enables
share one of its bits. -/
theorem irqLowByEnabledSource : Obligations.IrqLowByEnabledSource := by
  intro s
  obtain ⟨halert, hfault, hsnap, hflush⟩ := s.getLsbD_sources
  rw [← halert, ← hfault, ← hsnap, ← hflush, State.irqLow_iff_common_bit]
  simp only [Fin.exists_fin_succ, IsEmpty.exists_iff, or_false]
  rfl

end

section
/-!
SUPPORT. Frames read back (R171, R174, 10.6): the fields of a layout written value by value, the frame's head, the reader's
rule for each command with arguments, and the bits of a byte.
-/

namespace Sys2Proof

/-! ### Fields (10.6) -/

theorem field_bytesLE_append (n v : Nat) (rest : List Byte) : field (bytesLE n v ++ rest) 0 n = v % 256 ^ n := by
  rw [field, List.drop_zero, List.take_left' (length_bytesLE n v), natLE_bytesLE]

/-- A field behind the first one is a field of what follows. -/
theorem field_past_bytesLE {n off : Nat} (h : n ≤ off) (v size : Nat) (rest : List Byte) :
    field (bytesLE n v ++ rest) off size = field rest (off - n) size := by
  rw [field, field, List.drop_append, length_bytesLE, List.drop_eq_nil_of_le (by rwa [length_bytesLE]), List.nil_append]

/-- A word in whole bytes of its width reads back as itself. -/
theorem ofNat_field_append {w n : Nat} (h : 2 ^ w = 256 ^ n) (v : BitVec w) (rest : List Byte) :
    BitVec.ofNat w (field (bytesLE n v.toNat ++ rest) 0 n) = v := by
  rw [field_bytesLE_append, ← h, Nat.mod_eq_of_lt v.isLt, BitVec.ofNat_toNat, BitVec.setWidth_eq]

theorem ofNat_field {w n : Nat} (h : 2 ^ w = 256 ^ n) (v : BitVec w) :
    BitVec.ofNat w (field (bytesLE n v.toNat) 0 n) = v := by
  rw [← List.append_nil (bytesLE n v.toNat), ofNat_field_append h]

/-- A code that fits its byte reads back as itself. -/
theorem field_code_append {c : Nat} (h : c < 256) (rest : List Byte) : field (bytesLE 1 c ++ rest) 0 1 = c := by
  rw [field_bytesLE_append, Nat.mod_eq_of_lt (by omega)]

/-! ### Named values (10.6, R179) -/

theorem policyOfCode_field (p : Policy) (rest : List Byte) :
    policyOfCode (field (bytesLE 1 (policyCode p) ++ rest) 0 1) = some p := by
  cases p <;> rw [field_code_append (by decide)] <;> rfl

theorem modeOfCode_field (m : SnapMode) (rest : List Byte) :
    modeOfCode (field (bytesLE 1 (modeCode m) ++ rest) 0 1) = some m := by
  cases m <;> rw [field_code_append (by decide)] <;> rfl

theorem paramOfNumber_field (p : Param) (rest : List Byte) :
    paramOfNumber (field (bytesLE 1 (paramNumber p) ++ rest) 0 1) = some p := by
  cases p <;> rw [field_code_append (by decide)] <;> rfl

/-! ### The frame (R171, R172) -/

/-- A frame reads back as the command that its code and arguments spell. -/
theorem parseFrame_mkFrame {code : Byte} {args : List Byte} {i : Instr} (hcode : code ≠ codeNop)
    (hlen : args.length < 256 ^ 2) (hargs : parseArgs code args = some i) : parseFrame (mkFrame code args) = i := by
  have hcount : natLE [BitVec.ofNat 8 args.length, BitVec.ofNat 8 (args.length / 256)] = args.length :=
    (natLE_bytesLE 2 args.length).trans (Nat.mod_eq_of_lt hlen)
  simp only [mkFrame, bytesLE, List.cons_append, List.nil_append, parseFrame, if_neg hcode, hcount, lt_irrefl, if_false,
    List.take_length, hargs]

/-- A command whose one argument byte numbers a window, or an entry, has it back in its place. -/
theorem parseFrame_oneByte {code : Byte} {f : BitVec 8 → Instr} (hcode : code ≠ codeNop) (w : BitVec 8)
    (hargs : parseArgs code (bytesLE 1 w.toNat) = some (f (BitVec.ofNat 8 (field (bytesLE 1 w.toNat) 0 1)))) :
    parseFrame (mkFrame code (bytesLE 1 w.toNat)) = f w := by
  rw [ofNat_field rfl] at hargs
  exact parseFrame_mkFrame hcode (by simp) hargs

/-! ### The commands with arguments (10.6) -/

theorem parseArgs_paramSet (p : Param) (v : BitVec 32) :
    parseArgs codeParamSet (bytesLE 1 (paramNumber p) ++ bytesLE 4 v.toNat) = some (paramSet p v) := by
  have hv : BitVec.ofNat 32 (field (bytesLE 1 (paramNumber p) ++ bytesLE 4 v.toNat) 1 4) = v := by
    rw [field_past_bytesLE le_rfl, ofNat_field rfl]
  show Option.map (fun q => paramSet q (BitVec.ofNat 32 (field _ 1 4))) (paramOfNumber (field _ 0 1)) = _
  rw [hv, paramOfNumber_field, Option.map_some]

theorem parseFrame_paramSet (p : Param) (v : BitVec 32) : parseFrame (paramSetBytes p v) = paramSet p v :=
  parseFrame_mkFrame (by decide) (by simp) (parseArgs_paramSet p v)

theorem parseArgs_paramGet (p : Param) : parseArgs codeParamGet (bytesLE 1 (paramNumber p)) = some (.paramGet p) := by
  show Option.map _ (paramOfNumber (field (bytesLE 1 (paramNumber p) ++ []) 0 1)) = _
  rw [paramOfNumber_field, Option.map_some]

theorem parseArgs_windowLoad (a : LoadArgs) : parseArgs codeWindowLoad (loadBytes a) = some (.windowLoad a) := by
  have hpolicy : policyOfCode (field (loadBytes a) 16 1) = some a.policy := by
    simp (disch := decide) only [loadBytes, List.append_assoc, field_past_bytesLE, Nat.reduceSub, policyOfCode_field]
  show Option.map _ (policyOfCode (field (loadBytes a) 16 1)) = _
  rw [hpolicy, Option.map_some]
  simp (disch := decide) only [loadBytes, List.append_assoc, field_past_bytesLE, Nat.reduceSub, ofNat_field_append,
    ofNat_field]

theorem parseArgs_snapshotStart (a : StartArgs) :
    parseArgs codeSnapshotStart (startBytes a) = some (.snapshotStart a) := by
  have hmode : modeOfCode (field (startBytes a) 14 1) = some a.mode := by
    rw [← List.append_nil (startBytes a)]
    simp (disch := decide) only [startBytes, List.append_assoc, field_past_bytesLE, Nat.reduceSub, modeOfCode_field]
  show Option.map _ (modeOfCode (field (startBytes a) 14 1)) = _
  rw [hmode, Option.map_some]
  simp (disch := decide) only [startBytes, List.append_assoc, field_past_bytesLE, Nat.reduceSub, ofNat_field_append]

theorem parseArgs_byCounter (w : BitVec 8) (i : BitVec 24) :
    parseArgs codeEntryRead (bytesLE 1 w.toNat ++ bytesLE 3 i.toNat) = some (.entryRead (.byCounter w i)) := by
  show some (Instr.entryRead (.byCounter (BitVec.ofNat 8 (field _ 0 1)) (BitVec.ofNat 24 (field _ 1 3)))) = _
  rw [ofNat_field_append rfl, field_past_bytesLE le_rfl, ofNat_field rfl]

/-! ### Bits (R171) -/

/-- A byte read from bits, as a binary number. -/
theorem byteOfBits_eq (bits : List Bool) :
    byteOfBits bits = BitVec.ofNat 8 (bits.foldl (fun n b => Nat.bit b n) 0) := by
  simp only [byteOfBits, Nat.bit_val]

theorem byteOfBits_bitsOfByte (b : Byte) : byteOfBits (bitsOfByte b) = b := by
  rw [byteOfBits_eq]
  ext j hj
  rw [← BitVec.getLsbD_eq_getElem, BitVec.getLsbD_ofNat, decide_eq_true hj, Bool.true_and, ← BitVec.getLsbD_eq_getElem]
  interval_cases j <;> simp only [bitsOfByte, List.foldl, Nat.testBit_bit_zero, Nat.testBit_bit_succ]

/-- The eight bits of a byte, sampled first, are the first byte. -/
theorem mdiBytes_bitsOfByte_append (b : Byte) (rest : List Bool) : mdiBytes (bitsOfByte b ++ rest) = b :: mdiBytes rest := by
  show byteOfBits (bitsOfByte b) :: mdiBytes rest = _
  rw [byteOfBits_bitsOfByte]

/-- Fewer than eight bits are no byte. -/
theorem mdiBytes_short {bits : List Bool} (h : bits.length < 8) : mdiBytes bits = [] := by
  unfold mdiBytes
  split
  · simp only [List.length_cons] at h
    omega
  · rfl

theorem mdiBytes_flatMap_append {extra : List Bool} (h : extra.length < 8) (bytes : List Byte) :
    mdiBytes (bytes.flatMap bitsOfByte ++ extra) = bytes := by
  induction bytes with
  | nil => exact mdiBytes_short h
  | cons b bs ih => rw [List.flatMap_cons, List.append_assoc, mdiBytes_bitsOfByte_append, ih]

/-! ### Every command -/

/-- The frame of a command reads back as the command, form by form: without arguments, with one byte, and the rest. -/
theorem parseFrame_encodeFrame {i : Instr} {bytes : List Byte} (h : encodeFrame i = some bytes) :
    parseFrame bytes = i := by
  cases i
  case nop | softReset | mgmtStatus | snapshotAbort | snapshotStatus | faultRead | alertPop | flushAll =>
    cases h
    rfl
  case windowArm w | windowDrain w | windowRelease w | windowStatus w | retry w | discard w =>
    cases h
    exact parseFrame_oneByte (by decide) w rfl
  case paramSetLowMark v | paramSetFlushAge v | paramSetPrescaler v | paramSetEnables v =>
    cases h
    exact parseFrame_paramSet _ v
  case paramGet p =>
    cases h
    exact parseFrame_mkFrame (by decide) (by simp) (parseArgs_paramGet p)
  case windowLoad a =>
    cases h
    exact parseFrame_mkFrame (by decide) (by simp [loadBytes]) (parseArgs_windowLoad a)
  case snapshotStart a =>
    cases h
    exact parseFrame_mkFrame (by decide) (by simp [startBytes]) (parseArgs_snapshotStart a)
  case entryRead r =>
    cases r with
    | byNumber e =>
      cases h
      exact parseFrame_oneByte (f := fun e => .entryRead (.byNumber e)) (by decide) e rfl
    | byCounter w i =>
      cases h
      exact parseFrame_mkFrame (by decide) (by simp) (parseArgs_byCounter w i)
  all_goals cases h

end Sys2Proof

open Sys2Proof Sys2Proof.Machine

/-- Settles O60: the reader's rule for each form of frame, and the bits of a byte one after another. -/
theorem framesReadBack : Obligations.FramesReadBack :=
  ⟨fun _ _ => parseFrame_encodeFrame, fun bytes _ hextra => mdiBytes_flatMap_append hextra bytes⟩

end

section
/-!
SUPPORT. Frames without a command taken (R172, R185), and what a frame captures (R172, 10.6).
-/

namespace Sys2Proof.Machine

variable {s : State}

/-! ### Frames without a command taken (R172, R185) -/

theorem State.takesCommand_iff :
    s.takesCommand = true ↔ ∃ f, s.frame = some f ∧ f.live = true ∧ f.captured.portState ≠ .executing := by
  unfold State.takesCommand
  cases s.frame with
  | none => simp
  | some f => simp

/-- Where no command is taken, the end of a frame is the end of the frame alone. -/
theorem State.next_endFrame_dropped (h : s.takesCommand = false) (code : Byte) (run : State → Reply) :
    (.next (s.endFrame code run) : Host.Outcome State Fault Refusal) = .next { s with frame := none } :=
  congrArg _ (State.endFrame_dropped h code run)

theorem State.next_finish_endFrame_dropped (h : s.takesCommand = false) (code : Byte) (run : State → Reply) :
    (.next (finish s (s.endFrame code run)) : Host.Outcome State Fault Refusal) =
      .next (finish s { s with frame := none }) :=
  next_finish_congr (State.endFrame_dropped h code run) s

theorem State.softResetFrame_dropped (h : s.takesCommand = false) : s.softResetFrame = { s with frame := none } :=
  if_neg (ne_true_of_eq_false h)

theorem State.busyFrame_executing {f : Frame} (hf : s.frame = some f) (hp : f.captured.portState = .executing) :
    s.busyFrame = { s with frame := none } := by
  rw [State.busyFrame, hf]
  exact if_pos hp

/-! ### The fall of MSEL_N (R172) -/

theorem State.startFrame_busy {f : Frame} (hf : s.frame = some f) : s.startFrame = s := by
  rw [State.startFrame, hf]

theorem State.startFrame_idle (hf : s.frame = none) : s.startFrame =
    { s with frame := some { captured := s.capture, received := [], live := !s.rstAsserted } } := by
  rw [State.startFrame, hf]

/-- The header and the results of a response frame (10.6). -/
theorem Captured.bytes_of_length {c : Captured} {n : Nat} (h : c.results.length = n) :
    c.bytes = [BitVec.ofNat 8 (portStateCode c.portState), c.count, c.code, BitVec.ofNat 8 (statusCode c.status)] ++
      bytesLE 2 n ++ c.results := by
  rw [← h]
  rfl

theorem State.capture_idle (h : s.engine = .idle) : s.capture =
    { portState := .idle, count := s.takenCount, code := codeNop, status := .ok, results := [] } := by
  rw [State.capture, h]

theorem State.capture_responseReady {r : Response} (h : s.engine = .responseReady r) : s.capture =
    { portState := .responseReady, count := s.takenCount, code := r.code, status := r.status, results := r.results } := by
  rw [State.capture, h]

theorem State.capture_waitTags (h : s.engine = .executing .waitTags) : s.capture =
    { portState := .executing, count := s.takenCount, code := codeSoftReset, status := .busy,
      results := [1, BitVec.ofNat 8 (32 - s.freeTags)] } := by
  rw [State.capture, h]
  rfl

theorem State.capture_waitDelivery (h : s.engine = .executing .waitDelivery) : s.capture =
    { portState := .executing, count := s.takenCount, code := codeSoftReset, status := .busy,
      results := [2, BitVec.ofNat 8 s.owed] } := by
  rw [State.capture, h]
  rfl

end Sys2Proof.Machine

open Sys2Proof Sys2Proof.Machine

/-- Settles O58: each fall, by the engine's state; each row with no command taken, by the end of its frame. -/
theorem framesStartAndEnd : Obligations.FramesStartAndEnd := by
  refine ⟨fun s => ⟨fun f hf => congrArg _ (State.startFrame_busy hf), fun hf => congrArg _ (State.startFrame_idle hf),
      fun he => ?_, fun r hr => ?_, fun he => ?_, fun he => ?_⟩,
    fun s bytes => ⟨rfl, rfl, fun f hf hp => congrArg _ (State.busyFrame_executing hf hp)⟩,
    fun s code rest => ⟨fun h => State.next_endFrame h code _ rfl, fun h => State.next_endFrame_dropped h code _⟩,
    fun s => State.takesCommand_iff, fun s h => ?_, by decide⟩
  · rw [State.capture_idle he, Captured.bytes_of_length (n := 0) rfl]
    rfl
  · rw [State.capture_responseReady hr, Captured.bytes_of_length rfl]
    cases r.status <;> rfl
  · rw [State.capture_waitTags he, Captured.bytes_of_length (n := 2) rfl]
    rfl
  · rw [State.capture_waitDelivery he, Captured.bytes_of_length (n := 2) rfl]
    rfl
  · intro dropped
    have hframe : ∀ code run, (.next (s.endFrame code run) : Host.Outcome State Fault Refusal) = .next dropped :=
      State.next_endFrame_dropped h
    have hfinish : ∀ code run,
        (.next (finish s (s.endFrame code run)) : Host.Outcome State Fault Refusal) = .next (finish s dropped) :=
      State.next_finish_endFrame_dropped h
    exact ⟨⟨hframe _ _, fun _ => hframe _ _, fun _ => hframe _ _, fun _ => hframe _ _, fun _ => hframe _ _,
        fun _ => hframe _ _, fun _ => hframe _ _, hframe _ _, hframe _ _, hframe _ _⟩,
      fun _ => hfinish _ _, fun _ => hfinish _ _, fun _ => hfinish _ _, fun _ => hfinish _ _, fun _ => hfinish _ _,
      hfinish _ _, fun _ => hfinish _ _, fun _ => hfinish _ _, hfinish _ _, fun _ => hfinish _ _,
      next_finish_congr (State.softResetFrame_dropped h) s⟩

end

section
/-!
SUPPORT. The results of MGMT STATUS and ENTRY READ byte by byte (R180, R181, 10.6).
-/

namespace Sys2Proof.Machine

variable {s : State}

theorem bytesLE_one (v : Nat) : bytesLE 1 v = [BitVec.ofNat 8 v] := rfl

/-- The thirteen bytes of MGMT STATUS, one by one where a field is one byte. -/
theorem State.mgmtBytes_eq (s : State) :
    s.mgmtBytes = bytesLE 2 s.freeCount ++ bytesLE 2 s.clean.length ++ bytesLE 2 s.dirty.length ++
      bytesLE 2 s.issue.length ++
      [BitVec.ofNat 8 (s.hold.elim 0 fun h => holdReasonCode h.reason), BitVec.ofNat 8 s.freeTags,
        BitVec.ofNat 8 s.alerts.length, BitVec.ofNat 8 s.flagsByte, s.softCount] := by
  have hsoft : bytesLE 1 s.softCount.toNat = [s.softCount] := by
    rw [bytesLE_one, BitVec.ofNat_toNat, BitVec.setWidth_eq]
  rw [State.mgmtBytes, hsoft]
  simp only [bytesLE_one, List.append_assoc, List.cons_append, List.nil_append]
  cases s.hold <;> rfl

/-- A FREE entry shows its number, its state and its tag. -/
theorem State.entryBytes_free {e : EntryNo} (h : s.entry e = none) :
    s.entryBytes e = [BitVec.ofNat 8 e.val, 0] ++ List.replicate 23 0 ++ [BitVec.ofNat 8 (tagByte (s.tagOf e))] ++
      List.replicate 9 0 := by
  rw [State.entryBytes, h, ← bytesLE_zero, ← bytesLE_zero]
  rfl

theorem State.entryBytes_some {e : EntryNo} {x : Entry} (h : s.entry e = some x) :
    s.entryBytes e = [BitVec.ofNat 8 e.val, BitVec.ofNat 8 (entryStateCode x.body), BitVec.ofNat 8 x.marks,
        BitVec.ofNat 8 x.causes, BitVec.ofNat 8 x.window.val] ++ bytesLE 3 x.index ++ bytesLE 16 x.body.shown.1 ++
      [BitVec.ofNat 8 x.waiters.length, BitVec.ofNat 8 (tagByte (s.tagOf e))] ++
      bytesLE 4 (x.dirtySince.getD 0).toNat ++ bytesLE 4 x.lastUse.toNat ++
      [BitVec.ofNat 8 (x.body.shown.2 + (if x.dirtySince ≠ none then 4 else 0) + 8)] := by
  rw [State.entryBytes, h]
  simp only [bytesLE_one, List.append_assoc, List.cons_append, List.nil_append]

theorem State.length_entryBytes (s : State) (e : EntryNo) : (s.entryBytes e).length = 35 := by
  cases h : s.entry e with
  | none =>
    rw [State.entryBytes_free h]
    rfl
  | some x =>
    rw [State.entryBytes_some h]
    simp only [List.length_append, List.length_cons, List.length_nil, length_bytesLE]

theorem noEntryBytes_eq : noEntryBytes = [0, 7] ++ List.replicate 23 0 ++ [0xFF] ++ List.replicate 9 0 := by
  decide

theorem State.entryReadReply_found {w : WinNo} {i : BitVec 24} {e : EntryNo} (h : s.lookup w i.toNat = some e) :
    s.entryReadReply (.byCounter (BitVec.ofNat 8 w.val) i) = okay s (s.entryBytes e) := by
  rw [State.entryReadReply, withWindow_ofNat, h]

theorem State.entryReadReply_missing {w : WinNo} {i : BitVec 24} (h : s.lookup w i.toNat = none) :
    s.entryReadReply (.byCounter (BitVec.ofNat 8 w.val) i) = okay s noEntryBytes := by
  rw [State.entryReadReply, withWindow_ofNat, h]

end Sys2Proof.Machine

open Sys2Proof Sys2Proof.Machine

/-- Settles O59: the answers byte by byte; the bytes of an entry, by the form of its body. -/
theorem statusReported : Obligations.StatusReported := by
  refine ⟨fun s htake => ?_, fun s htake => ?_⟩
  · have hget : ∀ p, exec (.paramGet p) s = .next (s.counted.answered codeParamGet .ok (bytesLE 4 (s.param p))) :=
      fun p => State.next_endFrame htake codeParamGet (fun t => t.paramGet p) rfl
    refine ⟨hget .lowMark, hget .flushAge, hget .prescaler, hget .enables, s.mgmtBytes,
      State.next_endFrame htake codeMgmtStatus State.mgmtStatus rfl, ?_⟩
    rw [State.mgmtBytes_eq]
    cases s.hold with
    | none => rfl
    | some h =>
      obtain ⟨_, _, _, reason⟩ := h
      cases reason <;> rfl
  · intro tagHeld shown
    have htag : ∀ e, tagHeld e = BitVec.ofNat 8 (tagByte (s.tagOf e)) := fun e => by
      simp only [tagHeld]
      cases s.tagOf e <;> rfl
    have hshown : ∀ e, shown e = s.entryBytes e := fun e => by
      simp only [shown, htag]
      cases hx : s.entry e with
      | none => exact (State.entryBytes_free hx).symm
      | some x =>
        rw [State.entryBytes_some hx]
        obtain ⟨_, _, body, _, _, _, _, _, retry⟩ := x
        cases body with
        | accum d m => cases m <;> rfl
        | fetch d m q => cases m <;> cases q <;> cases retry <;> rfl
        | held v m => cases m <;> rfl
        | write v m => cases m <;> cases retry <;> rfl
        | strandedFetch d m q => cases m <;> cases q <;> rfl
        | strandedWrite v => rfl
    have hread : ∀ {r res}, s.counted.entryReadReply r = okay s.counted res →
        exec (.entryRead r) s = .next (s.counted.answered codeEntryRead .ok res) := fun {r _} h =>
      State.next_endFrame htake codeEntryRead (fun t => t.entryReadReply r) h
    simp only [hshown]
    refine ⟨s.length_entryBytes, fun n => hread rfl, fun w i hw => ?_,
      fun w i e hl => hread (State.entryReadReply_found (s := s.counted) hl), fun w i hl => ?_⟩
    · exact State.next_endFrame htake codeEntryRead (fun t => t.entryReadReply (.byCounter w i))
        (withWindow_above hw s.counted _)
    · rw [← noEntryBytes_eq]
      exact hread (State.entryReadReply_missing (s := s.counted) hl)

end

section
/-!
SUPPORT. A part at its reset values rests: with no request waiting, nothing follows the release of RST_N (R185).
-/

namespace Sys2Proof.Machine

variable {s : State}

/-- With every response order list empty no response is presented. -/
theorem State.chooseResponse_of_empty (h : ∀ id, (s.list id).records = []) : s.chooseResponse = s := by
  have hready : ∀ id, ¬ s.headReady id = true := fun id => by
    rw [State.headReady, h id]
    exact Bool.false_ne_true
  have hfind : (arbiterOrder s.respPtr).find? s.headReady = none := List.find?_eq_none.mpr fun id _ => hready id
  unfold State.chooseResponse
  split
  · rfl
  · rw [hfind]

/-- The part after a hard reset, RST_N released again: the reset values, with what lies outside the part (R185). -/
def State.hardReleased (s : State) : State :=
  { s.hardReset with rstAsserted := false }

theorem State.hardReleased_eq (h : s.channel = []) :
    s.hardReleased = { State.reset with pending := s.pending, choice := s.choice } := by
  rw [State.hardReleased, State.hardReset, h]
  rfl

theorem State.hardReleased_cleared (s : State) : s.hardReleased.cleared :=
  ⟨fun _ => Vector.getElem_replicate _, rfl, rfl, rfl, fun _ => Vector.getElem_replicate _,
    fun _ => Vector.getElem_replicate _, rfl, rfl, rfl, rfl, rfl, rfl⟩

theorem State.hardReleased_pressure (s : State) : s.hardReleased.pressure = false := by
  have hfree : s.hardReleased.freeCount = 256 := State.freeCount_of_replicate rfl
  rw [State.pressure, hfree]
  rfl

/-- A cleared part with an empty request channel has no claim to grant. -/
theorem State.cleared_chosen_none (h : s.cleared) (hc : s.channel = []) : s.chosen = none := by
  by_contra hne
  obtain ⟨c, hchosen⟩ := Option.ne_none_iff_exists'.mp hne
  obtain ⟨rfl, -⟩ := State.cleared_chosen h hchosen
  have hel := State.chosen_eligible hchosen
  simp [State.eligible, State.claims, State.passClaim, hc] at hel

/-- Nothing is due at the release of RST_N, and with an empty channel nothing falls at once. -/
theorem State.finish_hardReleased (h : s.channel = []) : finish s.hardReset s.hardReleased = s.hardReleased := by
  have hclear := s.hardReleased_cleared
  have hwindow : ∀ w, s.hardReleased.window w = { state := .empty, config := none } := fun _ => Vector.getElem_replicate _
  have hlist : ∀ id, s.hardReleased.list id = { records := [], nextKey := 0 } := fun _ => Vector.getElem_replicate _
  have hrests := finishKeepsAndRests.2.1 s.hardReset s.hardReleased rfl (State.cleared_walkDue hclear _)
    s.hardReleased_pressure (.inl rfl) (fun w hd => by simp [hwindow w] at hd) (fun hrun => Bool.noConfusion hrun) rfl
    (fun e => rfl) h (State.cleared_chosen_none hclear h)
  exact hrests.trans (State.chooseResponse_of_empty fun id => by rw [hlist id])

end Sys2Proof.Machine

open Sys2Proof Sys2Proof.Machine

/-- Settles O6: a part at its reset values rests (`State.finish_hardReleased`). -/
theorem releaseAfterHardReset : Obligations.ReleaseAfterHardReset := by
  refine ⟨fun s hc => ⟨s.hardReset, rfl, ?_⟩, fun s => rfl⟩
  show Host.Outcome.next (finish s.hardReset s.hardReleased) = _
  rw [State.finish_hardReleased hc, State.hardReleased_eq hc]

end

section
/-!
SUPPORT. The queue of commands: a step takes its front command, and nothing else writes it. The commands of the management
port leave every outer field but where they set a parameter, are counted or end a frame (`…_outer`).
-/

namespace Sys2Proof.Machine

variable {s t : State}

theorem step_front {c : Instr} {rest : List Instr} (h : s.pending = c :: rest) :
    step s = exec c { s with pending := rest } := by
  unfold step
  rw [h]

theorem State.pending_of_steady (h : t.steady = s.steady) : t.pending = s.pending :=
  congrArg Prod.fst h

theorem State.pending_of_outer (h : t.outer = s.outer) : t.pending = s.pending :=
  congrArg Prod.fst h

theorem State.pending_of_fixed (h : t.fixed = s.fixed) : t.pending = s.pending :=
  congrArg Prod.fst h

theorem finish_pending (a b : State) : (finish a b).pending = b.pending :=
  State.pending_of_steady (finish_steady a b)

/-! ### The rules of the management commands leave the outer fields -/

theorem withWindow_outer {run : WinNo → Reply} (hrun : ∀ w, (run w).st.outer = s.outer) (w : BitVec 8) :
    (withWindow w s run).st.outer = s.outer := by
  unfold withWindow
  split
  · exact hrun _
  · rfl

theorem State.windowLoad_outer (s : State) (a : LoadArgs) : (s.windowLoad a).st.outer = s.outer := by
  refine withWindow_outer (fun w => ?_) a.window
  repeat' split
  all_goals rfl

theorem State.windowArm_outer (s : State) (w : BitVec 8) : (s.windowArm w).st.outer = s.outer := by
  refine withWindow_outer (fun w => ?_) w
  split
  case h_1 | h_2 => exact (State.armingCheck_outer _ w).trans (s.setWinState_outer w .arming)
  all_goals rfl

theorem State.windowDrain_outer (s : State) (w : BitVec 8) : (s.windowDrain w).st.outer = s.outer := by
  refine withWindow_outer (fun w => ?_) w
  repeat' split
  case isFalse.isFalse =>
    exact (State.outer_of_fixed (State.drainStart_fixed _ w)).trans (s.setWinState_outer w .draining)
  all_goals rfl

theorem State.windowRelease_outer (s : State) (w : BitVec 8) : (s.windowRelease w).st.outer = s.outer := by
  refine withWindow_outer (fun w => ?_) w
  split <;> rfl

theorem State.windowStatus_outer (s : State) (w : BitVec 8) : (s.windowStatus w).st.outer = s.outer :=
  withWindow_outer (s := s) (fun _ => rfl) w

theorem State.snapshotStart_outer (s : State) (a : StartArgs) : (s.snapshotStart a).st.outer = s.outer := by
  refine withWindow_outer (fun w => ?_) a.window
  dsimp only
  repeat' split
  case isFalse.isFalse.isFalse.isFalse => exact (State.outer_of_fixed (State.walkStep_fixed _) :)
  all_goals rfl

theorem State.snapshotAbort_outer (s : State) : s.snapshotAbort.st.outer = s.outer := by
  unfold State.snapshotAbort
  split
  · exact State.outer_of_fixed ((State.endCheck_fixed _).trans (s.leaveRunning_fixed .aborted))
  all_goals rfl

theorem State.retryWindow_outer (s : State) (w : BitVec 8) : (s.retryWindow w).st.outer = s.outer := by
  refine withWindow_outer (fun w => ?_) w
  split
  · exact State.outer_of_fixed (s.reenterAll_fixed w)
  · rfl

theorem State.discardWindow_outer (s : State) (w : BitVec 8) : (s.discardWindow w).st.outer = s.outer := by
  refine withWindow_outer (fun w => ?_) w
  repeat' split
  case isFalse.isFalse =>
    exact (State.faultExit_outer _ w).trans (State.outer_of_fixed (s.freeEntries_fixed _))
  all_goals rfl

theorem State.flushAllCommand_outer (s : State) : s.flushAllCommand.st.outer = s.outer := by
  unfold State.flushAllCommand
  split
  · rfl
  · exact (State.outer_of_fixed (State.startFlushes_fixed ..) :)

theorem State.entryReadReply_outer (s : State) (r : EntryRef) : (s.entryReadReply r).st.outer = s.outer := by
  cases r with
  | byNumber e => rfl
  | byCounter w i => exact withWindow_outer (fun w => by split <;> rfl) w

/-! ### What else leaves the queue of commands -/

theorem State.setPrescaler_pending (s : State) (v : BitVec 32) : (s.setPrescaler v).st.pending = s.pending := by
  unfold State.setPrescaler
  repeat' split
  all_goals rfl

theorem State.endFrame_pending {run : State → Reply} (hrun : ∀ u : State, (run u).st.pending = u.pending) (s : State)
    (code : Byte) : (s.endFrame code run).pending = s.pending := by
  cases h : s.takesCommand with
  | true =>
    rw [State.endFrame_taken h]
    exact hrun s.counted
  | false =>
    rw [State.endFrame_dropped h]
    rfl

theorem State.busyFrame_pending (s : State) : s.busyFrame.pending = s.pending := by
  unfold State.busyFrame
  repeat' split
  all_goals rfl

theorem State.softResetFrame_pending (s : State) : s.softResetFrame.pending = s.pending := by
  unfold State.softResetFrame State.softBegin
  dsimp only
  repeat' split
  all_goals rfl

theorem State.deliver_pending (s : State) : s.deliver.pending = s.pending := by
  unfold State.deliver
  split <;> rfl

theorem State.tickOnce_pending (s : State) : s.tickOnce.pending = s.pending :=
  (State.pending_of_fixed s.tickOnce_fixed).trans rfl

/-- An arrival frees its tag, and what it brings the tag's owner leaves the queue. -/
theorem State.arrive_pending (s : State) (g : Tag) (ok : Bool) (data : BitVec 512) :
    (s.arrive g ok data).pending = s.pending := by
  have hfree : (s.setTag g none).pending = s.pending := rfl
  obtain ⟨-, h⟩ | ⟨r, -, ⟨id, link, -, h⟩ | ⟨e, -, h⟩ | ⟨k, -, h⟩⟩ := s.arrive_cases g ok data <;> rw [h]
  · exact (State.pending_of_outer (State.passCompleted_outer ..)).trans hfree
  · exact (State.pending_of_outer (State.tableResponse_outer ..)).trans hfree
  · exact (State.pending_of_outer (State.snapResponse_outer ..)).trans hfree

/-! ### Commands -/

/-- Every command answers a next state with the queue as it was: its own changes leave the queue, and so does the end of its
happening (`finish_pending`). -/
theorem exec_pending (c : Instr) (s : State) : ∃ t, exec c s = .next t ∧ t.pending = s.pending := by
  have hend : ∀ u : State, u.pending = s.pending → (finish s u).pending = s.pending :=
    fun u hu => (finish_pending s u).trans hu
  have hset : ∀ code run, (∀ u : State, (run u).st.pending = u.pending) → (s.endFrame code run).pending = s.pending :=
    fun code run hrun => State.endFrame_pending hrun s code
  have hframe : ∀ code run, (∀ u : State, (run u).st.outer = u.outer) → (s.endFrame code run).pending = s.pending :=
    fun code run hrun => hset code run fun u => State.pending_of_outer (hrun u)
  cases c <;> refine ⟨_, rfl, ?_⟩
  case hardReset | frameWithoutCommand | nop => rfl
  case requestTaken | downstreamRequestAccepted | rstNReleased => exact hend _ rfl
  case holdSlotRetry => exact hend _ (State.pending_of_fixed s.retryHold_fixed)
  case responseDelivery => exact hend _ s.deliver_pending
  case downstreamGrant => exact hend _ (State.pending_of_steady s.grant_keeps.1)
  case passThroughCompletion | fetchReturn | writeBackReturn | fetchError | writeBackError | destinationWriteReturn
      | destinationWriteError | tableResponseAbsorbed | snapResponseAbsorbed | orphanResponse =>
    exact hend _ (s.arrive_pending ..)
  case windowBecomesActive w => exact hend _ (State.pending_of_outer (s.armingCheck_outer w))
  case windowQuiesce w => exact hend _ (State.pending_of_outer (s.drainCheck_outer w))
  case tickAdvance =>
    split
    · rfl
    · exact hend _ s.tickOnce_pending
  case frameStart => unfold State.startFrame; split <;> rfl
  case frameBusy => exact s.busyFrame_pending
  case unassignedCommand | snapshotStatus | faultRead | alertPop | paramGet | mgmtStatus => exact hframe _ _ fun _ => rfl
  case windowLoad a => exact hend _ (hframe _ _ fun u => u.windowLoad_outer a)
  case windowArm w => exact hend _ (hframe _ _ fun u => u.windowArm_outer w)
  case windowDrain w => exact hend _ (hframe _ _ fun u => u.windowDrain_outer w)
  case windowRelease w => exact hend _ (hframe _ _ fun u => u.windowRelease_outer w)
  case windowStatus w => exact hframe _ _ fun u => u.windowStatus_outer w
  case snapshotStart a => exact hend _ (hframe _ _ fun u => u.snapshotStart_outer a)
  case snapshotAbort => exact hend _ (hframe _ _ State.snapshotAbort_outer)
  case snapshotComplete => exact hend _ (State.pending_of_fixed s.completionCheck_fixed)
  case snapshotEnd => exact hend _ (State.pending_of_fixed s.endCheck_fixed)
  case walkRetry => exact hend _ (State.pending_of_fixed s.retryWalk_fixed)
  case retry w => exact hend _ (hframe _ _ fun u => u.retryWindow_outer w)
  case discard w => exact hend _ (hframe _ _ fun u => u.discardWindow_outer w)
  case flushAll => exact hend _ (hframe _ _ State.flushAllCommand_outer)
  case flushAllComplete => exact hend _ (State.pending_of_outer s.flushAllCheck_outer)
  case paramSetLowMark v => exact hend _ (hset _ _ fun u => by unfold State.setLowMark; split <;> rfl)
  case paramSetFlushAge v => exact hset _ _ fun u => by unfold State.setFlushAge; split <;> rfl
  case paramSetPrescaler v => exact hset _ _ fun u => u.setPrescaler_pending v
  case paramSetEnables v => exact hset _ _ fun u => by unfold State.setEnables; split <;> rfl
  case entryRead r => exact hframe _ _ fun u => u.entryReadReply_outer r
  case softReset => exact hend _ s.softResetFrame_pending
  case softResetClearing => exact hend _ (State.pending_of_outer s.clearCheck_outer)
  case softResetEnd => exact hend _ (State.pending_of_outer s.finishCheck_outer)

end Sys2Proof.Machine

open Sys2Proof Sys2Proof.Machine

/-- Settles O3: a happening's own changes and its end leave the queue, command by command (`exec_pending`). -/
theorem everyCommandCompletes : Obligations.EveryCommandCompletes :=
  exec_pending

/-- Settles O1, by the step's equation at a queue that is not empty (`step_front`). -/
theorem stepRunsFrontCommand : Obligations.StepRunsFrontCommand :=
  fun _ _ _ h => step_front h

end
